-- ==== Sys2Proof/Word.lean ====
section
/-! DEFINITION. The plain words of the manual: octets and the multi-octet numbers of frames, and the
arithmetic words of 00_scope.md ("Arithmetic words"): clamped to, saturating. -/

namespace Sys2Proof

/-- One octet of a frame (00_scope.md, "Numbers and units"). -/
abbrev Octet := BitVec 8

/-- A two-octet number of a frame, and the 16-bit counters that wrap (R61, R171). -/
abbrev Half := BitVec 16

/-- A four-octet number of a frame, and the site clock (R178). -/
abbrev Quad := BitVec 32

/-- A string position, 0 to 7 (Table 0.3). -/
abbrev StringNo := Fin 8

/-- A member address, 0 to 9: String Nodes 0 to 7, Boost Unit 8, Water Unit 9 (Table 0.3). -/
abbrev MemberNo := Fin 10

/-- "Clamped to" a range: below it the lower end, above it the upper end. -/
def clampTo (lo hi x : Int) : Int :=
  if x < lo then lo else if hi < x then hi else x

/-- A "saturating" sum: it holds at the end of the range. -/
def satAdd (top a b : Nat) : Nat :=
  min top (a + b)

/-- A "saturating" signed sum, at either end of the range. -/
def satAddInt (lo hi a b : Int) : Int :=
  clampTo lo hi (a + b)

end Sys2Proof
end

