-- ==== Sys2Proof/Syntax.lean ====
section
/-! DEFINITION. The commands: one constructor of Instr for every row of spec/opcode_table.json. A command is an
event at the part (a reset, the site tick, a timer running out, a loop reply, a character) or a request
frame that has arrived whole at a master port; a request's operands are the octets of Table 10.10. -/

namespace Sys2Proof

/-- The three master ports (chapter 10). -/
inductive Port where
  | plant | energy | service
deriving DecidableEq, Repr

/-- One character on a line as the receiver samples it (R135): three samples of the start bit, of each of
the eight data bits (least significant bit first), of the parity bit and of the stop bit. A sample is 1
for a high line. -/
structure LineChar where
  start : BitVec 3
  data : Vector (BitVec 3) 8
  parity : BitVec 3
  stop : BitVec 3
deriving DecidableEq, Repr

/-- The levels of one port's two strap pins, true for high (R163). -/
structure StrapPair where
  rs1 : Bool
  rs0 : Bool
deriving DecidableEq, Repr

/-- The six strap pins as they stand at a reset (Table 0.1, R163). -/
structure Straps where
  plant : StrapPair
  energy : StrapPair
  service : StrapPair
deriving DecidableEq, Repr

/-- The commands of spec/opcode_table.json, in the table's order. `p` is the port a request arrives at and
`tag` the tag it carries (Table 10.5). -/
inductive Instr where
  -- resets
  | powerOn (straps : Straps)
  | pinReset (straps : Straps)
  -- the site tick and the events it brings due
  | siteTick
  | siteHour
  | siteMinute
  | settleEnd (string : StringNo)
  | windowExpiry
  | sweepMatch
  | scheduleMatch
  | periodExpiry
  | standbyRefresh
  | pauseExpired
  | dosePoll
  | maximumDoseTime
  | reservoirPoll
  | stale
  | releaseLimit
  | pollSpacingEnd
  | reconfigurationWaitEnd (node : StringNo)
  | storeComplete
  -- the DEMAND line and the string loop
  /-- The level the DEMAND line takes: true is the row's assertion; false is the release that R154 speaks
  of and the table has no row for (assumption 10). -/
  | demandLineAsserted (level : Bool)
  | loopGrant
  | releaseGrant
  | fixedDelay
  | loopReply (chars : List LineChar)
  | replyTimeout
  | loopReplyGap
  | demandPollReturn (chars : List LineChar)
  | pollReturnTimeout
  | rawCollectionEnd (chars : List LineChar)
  -- the lines of the master ports
  | frameGapTimeout (p : Port)
  | resyncIdle (p : Port)
  | badFrame (p : Port) (chars : List LineChar)
  /-- The straps are sampled only when the reply is that of a RESTART (R179). -/
  | replySent (p : Port) (straps : Straps)
  -- requests
  | plantStatus (p : Port) (tag supply : Octet) (busVoltage load headroom : Quad)
  | holdMaintenance (p : Port) (tag : Octet)
  | releaseHold (p : Port) (tag : Octet)
  | openWindow (p : Port) (tag : Octet) (budget minutes : Half)
  | closeWindow (p : Port) (tag : Octet)
  | readForecast (p : Port) (tag : Octet)
  | readString (p : Port) (tag string : Octet)
  | readRoundsQueue (p : Port) (tag : Octet)
  | readRoundsEqualise (p : Port) (tag : Octet)
  | readRoundsWater (p : Port) (tag : Octet)
  | readRoundsSite (p : Port) (tag : Octet)
  | readRoundsLoop (p : Port) (tag : Octet)
  | readRoundsDemand (p : Port) (tag : Octet)
  | readNotices (p : Port) (tag : Octet)
  | ackNotices (p : Port) (tag : Octet) (mask : Half)
  | setNoticeEnables (p : Port) (tag : Octet) (mask : Half)
  | loopTransaction (p : Port) (tag member command : Octet) (data : List Octet)
  | loopResult (p : Port) (tag : Octet)
  | requestRound (p : Port) (tag kind string urgency presence recipe : Octet) (dose : Half)
  | cancelRound (p : Port) (tag kind string : Octet)
  | barString (p : Port) (tag string : Octet)
  | unbarString (p : Port) (tag string : Octet)
  | clearChannelEqualise (p : Port) (tag : Octet)
  | clearChannelWater (p : Port) (tag : Octet)
  | takeLoop (p : Port) (tag : Octet)
  | giveLoop (p : Port) (tag : Octet)
  | loopRaw (p : Port) (tag : Octet) (octets : List Octet)
  | readDemands (p : Port) (tag : Octet)
  | clearOverflow (p : Port) (tag : Octet)
  | readLogRecord (p : Port) (tag segment index : Octet)
  | releaseSegment (p : Port) (tag segment : Octet)
  | writeSetting (p : Port) (tag identifier index : Octet) (value : List Octet)
  | readSetting (p : Port) (tag identifier index : Octet)
  | storeSettings (p : Port) (tag : Octet)
  | setClock (p : Port) (tag : Octet) (seconds : Quad)
  | restart (p : Port) (tag : Octet)
  | characterReceived (p : Port) (char : LineChar)
deriving DecidableEq, Repr

/-- A request as Table 10.10 gives it, without port and tag: what a Port Unit hands to an owner (R165). -/
inductive Request where
  | plantStatus (supply : Octet) (busVoltage load headroom : Quad)
  | holdMaintenance
  | releaseHold
  | openWindow (budget minutes : Half)
  | closeWindow
  | readForecast
  | readString (string : Octet)
  | readRounds (selector : Octet)
  | readNotices
  | ackNotices (mask : Half)
  | setNoticeEnables (mask : Half)
  | loopTransaction (member command : Octet) (data : List Octet)
  | loopResult
  | requestRound (kind string urgency presence recipe : Octet) (dose : Half)
  | cancelRound (kind string : Octet)
  | barString (string : Octet)
  | unbarString (string : Octet)
  | clearChannel (channel : Octet)
  | takeLoop
  | giveLoop
  | loopRaw (octets : List Octet)
  | readDemands
  | clearOverflow
  | readLogRecord (segment index : Octet)
  | releaseSegment (segment : Octet)
  | writeSetting (identifier index : Octet) (value : List Octet)
  | readSetting (identifier index : Octet)
  | storeSettings
  | setClock (seconds : Quad)
  | restart
deriving DecidableEq, Repr

end Sys2Proof
end

