-- ==== Sys2Proof/Decode.lean ====
section
/-! DEFINITION. The block decodes no instruction words: no row of spec/opcode_table.json gives bits ("fields" is
empty in all 71 rows). Requests are decoded from frames in Machine/Operands.lean. -/

namespace Sys2Proof

/-- The command a word spells by the table's bits: no row gives bits, so no word spells one. -/
def decodeTableWord (_nbits _w : Nat) : Option Instr :=
  none

end Sys2Proof
end

