-- ==== Sys2Proof/Config.lean ====
section
/-! DEFINITION. What the part fixes (the "fixed" rows of the parameter tables) and the FREE VALUES: opaque
constants with no body, for what the manual leaves open. Nothing can be proved of a free value. -/

namespace Sys2Proof.Config

/-- The end of every "0–65 535 s, saturating" counter. -/
def secondsTop : Nat := 65535

/-- Ticks in a minute and in a site hour (R5, R11). -/
def ticksPerMinute : Nat := 60
def ticksPerHour : Nat := 3600

/-- Capacity of the Round Queue (Table 3.2). -/
def queueCapacity : Nat := 12

/-- Capacity of the Demand FIFO and the most entries one READ DEMANDS returns (Table 9.2). -/
def fifoCapacity : Nat := 32
def demandsPerRead : Nat := 8

/-- The wait after a failed reconfiguration write, in s (Table 9.2). -/
def reconfigurationWait : Nat := 30

/-- Retries per transaction and failures for absence (Table 8.2). -/
def retries : Nat := 2
def failuresForAbsence : Nat := 3

/-- Dose and reservoir poll intervals, in s (Table 6.4). -/
def dosePollInterval : Nat := 2
def reservoirPollInterval : Nat := 60

/-- Window budget and duration maxima (Table 7.2). -/
def budgetTop : Nat := 20000
def durationTop : Nat := 1440

/-- The most octets of one raw exchange (R149). -/
def rawTop : Nat := 56

/-- FREE VALUE (assumption 3). R139: "The outcome of the transaction and the marking reach the claimant as
two events, in either order": whether the marking is taken first, at the n-th such choice. -/
opaque markingFirst : Nat → Bool

/-- FREE VALUE (assumption 4). R56: "Both channels may select entries for the same string at once": whether
the Water Channel judges dispatch first, at the n-th such choice. -/
opaque waterJudgesFirst : Nat → Bool

/-- FREE VALUE (assumption 5). What a two-valued octet of a member's reply (level, valve, flow active;
Table 10.12) means when it holds neither 00h nor 01h: true for the second value of the table. -/
opaque oddFlag : Octet → Bool

/-- FREE VALUE (assumption 6). The two-octet duration of a Round Log record (Table 10.9) when the round ran
for more than 65 535 minutes: the manual gives the field no saturation. -/
opaque longDuration : Nat → Half

/-- FREE VALUE (assumption 7). The claimant code READ ROUNDS gives for a transaction of the safe-state
sequence (R153): the sequence is none of the six claimant levels of R144. -/
opaque safeStateClaimant : Octet

end Sys2Proof.Config
end

