-- ==== Sys2Proof/Machine/State.lean ====
section
/-! DEFINITION. The state of the part, block by block as Table 0.2 lists them, with the reset value of each
block beside it, and State.reset: the part right after power-on. All of it is plain data. -/

namespace Sys2Proof.Machine

/-! ### Names -/

/-- The two kinds of round (Table 3.4). -/
inductive Kind where
  | equalise | water
deriving DecidableEq, Repr

/-- Table 3.4. -/
inductive Urgency where
  | normal | urgent
deriving DecidableEq, Repr

/-- Table 3.4, in the order of Table 10.9. -/
inductive Origin where
  | schedule | sweep | demand | request | followOn
deriving DecidableEq, Repr

/-- Bar causes (Table 1.1). -/
inductive BarCause where
  | byRequest | nodeLost | valveFault | detachFailed | closeFailed
deriving DecidableEq, Repr

/-- The causes of Table 10.9, in its order (01h to 13h). -/
inductive Cause where
  | noRise | overvoltage | overTemp | discharge | pauseExpired | boostLost | boostFault | nodeRestart
  | nodeLost | barred | noAttach | valveFault | pumpLost | flowLeak | request | powerOn | pinRestart
  | closeFailed | detachFailed
deriving DecidableEq, Repr

/-- Outcomes of an equalise round (Table 4.1). -/
inductive EqOutcome where
  | finished | timed | aborted (cause : Cause) | cancelled
deriving DecidableEq, Repr

/-- Outcomes of a watering round (Table 6.1). -/
inductive WaterOutcome where
  | delivered | full | timed | stopped | cancelled | aborted (cause : Cause)
deriving DecidableEq, Repr

/-- Demand kinds (Table 9.3), in the order of Table 10.8 (01h to 07h). -/
inductive DemandKind where
  | levelLow | overTemp | valveFault | nodeRestart | boostFault | reservoirLow | flowLeak
deriving DecidableEq, Repr

/-- Notice sources, in the order of their mask bits (Table 10.4). -/
inductive Notice where
  | roundEnded | roundPaused | windowNeeded | demandPending | demandOverflow | segmentFull | logOverrun
  | channelFault | loopResultReady | settingsStored | plantStale | cellAlarm
deriving DecidableEq, Repr

/-! ### Chapter 1: the String Condition Table -/

/-- The state of a string with the fields that are present only in it (Tables 1.2 and 1.3). The holder is
read off the state (R6): `StringState.holder` in Machine/Ops.lean. -/
inductive StringState where
  | float
  | equalise (pendingBar : Option BarCause)
  | settle (remaining : Nat)
  | water (pendingBar : Option BarCause)
  | barred (cause : BarCause)
deriving DecidableEq, Repr

/-- One string record (Table 1.2). The installed flag is a working setting (R1) and stands in Settings; the cell
spread is read off the cell list (R2). -/
structure StringRecord where
  state : StringState
  voltage : Nat
  current : Int
  temperature : Int
  age : Nat
  levelLow : Bool
  cells : Option (Vector Nat 24)
  throughput : Nat
  remainder : Nat
  hoursEqualise : Option Nat
  hoursWater : Option Nat
  waterTotal : Nat
  lastEqualise : Option EqOutcome
  lastWater : Option (WaterOutcome × Nat)
deriving DecidableEq, Repr

/-- Table 1.5, the power-on column. -/
def StringRecord.powerOn : StringRecord where
  state := .float
  voltage := 0
  current := 0
  temperature := 0
  age := 65535
  levelLow := false
  cells := none
  throughput := 0
  remainder := 0
  hoursEqualise := none
  hoursWater := none
  waterTotal := 0
  lastEqualise := none
  lastWater := none

/-! ### Chapter 2: the Sweep Scanner -/

/-- One item of a sweep (R25): the string names its node. -/
inductive SweepItem where
  | summary (string : StringNo)
  | closeValve (string : StringNo)
  | cells (string : StringNo)
deriving DecidableEq, Repr

/-- The scanner (Table 2.1). `run` holds the items of the sweep in progress, the first being the one
reached; `alarm` is the string and spread of the CELL ALARM detail (R33), whose third part is `late`;
`matchDue` marks a timer match that SITE_TICK has handed over and SWEEP_MATCH has not yet taken. -/
structure Sweep where
  counter : Nat
  due : Bool
  late : Bool
  run : Option (List SweepItem)
  dividerCount : Nat
  alarm : Option (StringNo × Nat)
  matchDue : Bool
deriving DecidableEq, Repr

/-- Table 2.3. -/
def Sweep.reset : Sweep where
  counter := 0
  due := false
  late := false
  run := none
  dividerCount := 0
  alarm := none
  matchDue := false

/-! ### Chapter 3: schedules and the Round Queue -/

/-- The Schedule Timer (R38). `matchDue` marks a match SITE_TICK has handed over and SCHEDULE_MATCH has not
yet taken. The schedule entries are settings. -/
structure ScheduleTimer where
  counter : Nat
  matchDue : Bool
deriving DecidableEq, Repr

/-- R38, R59. -/
def ScheduleTimer.reset : ScheduleTimer where
  counter := 0
  matchDue := false

/-- The kind of an entry with the field present exactly for that kind (Table 3.4): a recipe number or a
dose limit in mL. -/
inductive Work where
  | equalise (recipe : Fin 4)
  | water (limit : Nat)
deriving DecidableEq, Repr

/-- A Round Queue entry (Table 3.4). Its arrival is its place in State.queue, the arrival list (R44). `checked` marks
that a reservoir check has begun for this very entry: one posted anew for its string after it has left is another entry,
and not the one checked (R55, R105). -/
structure QueueEntry where
  work : Work
  string : StringNo
  urgency : Urgency
  origin : Origin
  checked : Bool := false
deriving DecidableEq, Repr

/-! ### Chapter 11, 5: settings -/

/-- A recipe (Table 5.3). -/
structure Recipe where
  vt25 : Nat
  k : Int
  vmax : Nat
  ilim : Nat
  imin : Nat
  approachBand : Nat
  plateauWindow : Nat
  plateauTolerance : Nat
  minHold : Nat
  maxHold : Nat
  raiseLimit : Nat
  derateTemp : Nat
  abortTemp : Nat
  settleTime : Nat
  nominalEnergy : Nat
deriving DecidableEq, Repr

/-- Table 5.3, the default column. -/
def Recipe.factory : Recipe where
  vt25 := 2450
  k := -30
  vmax := 2550
  ilim := 250
  imin := 20
  approachBand := 10
  plateauWindow := 30
  plateauTolerance := 3
  minHold := 120
  maxHold := 480
  raiseLimit := 360
  derateTemp := 400
  abortTemp := 450
  settleTime := 60
  nominalEnergy := 3000

/-- What a schedule entry posts, with the fields present exactly for its kind (Table 3.3). -/
inductive ScheduleWork where
  | equalise (recipe : Fin 4) (trigger : Nat)
  | water (limit : Nat)
deriving DecidableEq, Repr

/-- A schedule entry (Table 3.3). -/
structure ScheduleEntry where
  enabled : Bool
  work : ScheduleWork
  string : StringNo
  interval : Nat
deriving DecidableEq, Repr

/-- Table 3.3, the factory default of entry `i`: string is the index modulo 8. -/
def ScheduleEntry.factory (i : Nat) : ScheduleEntry where
  enabled := false
  work := .equalise 0 0
  string := ⟨i % 8, Nat.mod_lt i (by decide)⟩
  interval := 720

/-- Access classes (R137). -/
inductive AccessClass where
  | f | h | fh | a
deriving DecidableEq, Repr

/-- One entry of the class table (R137). -/
structure ClassEntry where
  cls : AccessClass
  delay : Nat
  holdLimit : Nat
deriving DecidableEq, Repr

/-- Table 8.2, the default of the class table. -/
def ClassEntry.factory (m : MemberNo) : ClassEntry :=
  if m.val < 8 then { cls := .fh, delay := 40, holdLimit := 5 }
  else if m.val = 8 then { cls := .h, delay := 0, holdLimit := 10 }
  else { cls := .a, delay := 100, holdLimit := 1 }

/-- The working settings (chapter 11; the parameter tables of every chapter). -/
structure Settings where
  sweepInterval : Nat
  cellDivider : Nat
  spreadLimit : Nat
  calibration : Vector Int 8
  defaultRecipe : Vector (Fin 4) 8
  installed : Vector Bool 8
  scheduleCompare : Nat
  schedule : Vector ScheduleEntry 24
  period : Nat
  resumeLimit : Nat
  waterFactor : Nat
  floatAllowance : Nat
  dmax : Nat
  dmin : Nat
  pumpPower : Nat
  reserve : Nat
  noFlowTime : Nat
  maxDoseTime : Nat
  staleness : Nat
  loopMap : Vector MemberNo 10
  classes : Vector ClassEntry 10
  releaseLimit : Nat
  threshold : Nat
  recipes : Vector Recipe 4
deriving DecidableEq, Repr

/-- The factory defaults (R177 and the default column of each parameter table). -/
def Settings.factory : Settings where
  sweepInterval := 30
  cellDivider := 10
  spreadLimit := 80
  calibration := Vector.replicate 8 0
  defaultRecipe := Vector.replicate 8 0
  installed := Vector.replicate 8 false
  scheduleCompare := 3600
  schedule := Vector.ofFn fun i => ScheduleEntry.factory i.val
  period := 10
  resumeLimit := 120
  waterFactor := 336
  floatAllowance := 40
  dmax := 4800
  dmin := 50
  pumpPower := 120
  reserve := 100
  noFlowTime := 20
  maxDoseTime := 15
  staleness := 180
  loopMap := Vector.ofFn fun i => i
  classes := Vector.ofFn ClassEntry.factory
  releaseLimit := 15
  threshold := 480
  recipes := Vector.replicate 4 Recipe.factory

/-- The Settings Store (Table 11.1): the nonvolatile copy and whether its check holds, the store state, the
modified mark and the SETTINGS STORED detail (R169, R176, R177). -/
structure Store where
  copy : Settings
  checkHolds : Bool
  storing : Bool
  modified : Bool
  defaulted : Bool
deriving DecidableEq, Repr

/-! ### Chapters 4 and 5: the Equalise Channel and its accounting -/

/-- A boost reading: Vs in mV and Is in 0.1 A (R66). -/
structure Reading where
  vs : Nat
  is : Int
deriving DecidableEq, Repr

/-- Vtarget in mV and Iperm in 0.1 A (Table 5.2). -/
structure Setpoint where
  target : Nat
  perm : Nat
deriving DecidableEq, Repr

/-- The accounting state of a round (Table 5.2). `lastFresh` is also the last fresh voltage of Table 4.3:
both are written by an answered SET POINT and by nothing else (R68, R94). -/
structure Accounting where
  held : Option Setpoint
  sent : Option Setpoint
  charge : Int
  overcharge : Nat
  energy : Nat
  lastFresh : Option Reading
  lastRefresh : Option Reading
  peak : Option Int
  windowTime : Nat
  windowMin : Option Int
  prevMin : Option Int
  plateau : Nat
  dose : Option Nat
deriving DecidableEq, Repr

/-- R85: the accounting state at its creation. -/
def Accounting.fresh : Accounting where
  held := none
  sent := none
  charge := 0
  overcharge := 0
  energy := 0
  lastFresh := none
  lastRefresh := none
  peak := none
  windowTime := 0
  windowMin := none
  prevMin := none
  plateau := 0
  dose := none

/-- The pause causes (Table 4.5). -/
inductive PauseCause where
  | windowClosed | stale | held | lowEnergy | loopRelease
deriving DecidableEq, Repr

/-- A set of pause causes. -/
structure PauseSet where
  windowClosed : Bool
  stale : Bool
  held : Bool
  lowEnergy : Bool
  loopRelease : Bool
deriving DecidableEq, Repr

def PauseSet.none : PauseSet where
  windowClosed := false
  stale := false
  held := false
  lowEnergy := false
  loopRelease := false

/-- The period timer (R67, R71): the seconds counted, the length the period started with, and whether it
runs. -/
structure PeriodTimer where
  count : Nat
  length : Nat
  running : Bool
deriving DecidableEq, Repr

/-- RAISE or HOLD (the remembered phase of Table 4.3). -/
inductive Phase where
  | raise | hold
deriving DecidableEq, Repr

/-- What is present only in PAUSED (Table 4.3): the remembered phase and pause elapsed. `expired` marks that a
tick found the resume limit reached (R73) and PAUSE_EXPIRED has not yet been taken. -/
structure Pause where
  phase : Phase
  elapsed : Nat
  expired : Bool
deriving DecidableEq, Repr

/-- The round context (Table 4.3). `ticks` counts the site ticks since the claim, for the duration of the
log record (Table 11.2). `pauseOwed` marks a pause taken while a SET POINT was in flight, whose STANDBY is still to be
claimed (R70, assumption 21). -/
structure Round where
  number : Half
  string : StringNo
  recipeNo : Fin 4
  recipe : Recipe
  origin : Origin
  start : Option Quad
  ticks : Nat
  pauses : PauseSet
  pauseOwed : Bool
  pause : Option Pause
  timer : PeriodTimer
  raiseElapsed : Nat
  holdElapsed : Nat
  failures : Nat
  outcome : Option EqOutcome
  faultAtEnd : Bool
  acct : Accounting
deriving DecidableEq, Repr

/-- Equalise Channel states (Table 4.2), in the order of Table 10.9. -/
inductive EqcState where
  | idle | connect | raise | hold | paused | detach | fault
deriving DecidableEq, Repr

/-- The boost attachment record (R62), and in the same form the valve record (R103): empty, or one string,
confirmed or unconfirmed. -/
inductive LinkRecord where
  | empty
  | names (string : StringNo) (confirmed : Bool)
deriving DecidableEq, Repr

/-- The Equalise Channel (Table 4.1). `clear` is set while a CLEAR CHANNEL is outstanding (R80, R83). -/
structure Eqc where
  state : EqcState
  round : Option Round
  attachment : LinkRecord
  clear : Bool
deriving DecidableEq, Repr

/-- R84. -/
def Eqc.reset : Eqc where
  state := .idle
  round := none
  attachment := .empty
  clear := false

/-! ### Chapter 6: the Water Channel -/

/-- Water Channel states (Table 6.2), in the order of Table 10.9. -/
inductive WacState where
  | idle | open | pump | dose | stop | close | fault
deriving DecidableEq, Repr

/-- The pump record (R103). -/
inductive PumpRecord where
  | off | onConfirmed | onUnconfirmed
deriving DecidableEq, Repr

/-- The dose context (Table 6.3). `ticks` counts the site ticks since the claim (Table 11.2); `pollTimer`
is the dose poll timer of R108 while it runs; `maxReached` marks that a tick found the maximum dose time
reached (R109) and MAXIMUM_DOSE_TIME has not yet been taken. -/
structure Dose where
  number : Half
  string : StringNo
  limit : Nat
  origin : Origin
  start : Option Quad
  ticks : Nat
  delivered : Nat
  lastChange : Option Nat
  elapsed : Option Nat
  pumpOnSent : Bool
  flowActive : Option Bool
  outcome : Option WaterOutcome
  faultAtEnd : Bool
  pollTimer : Option Nat
  maxReached : Bool
deriving DecidableEq, Repr

/-- The Water Channel (Table 6.1). `check` names the string whose entry the outstanding reservoir check is
for (R105); `pollTimer` is the reservoir poll timer while it runs (R104); `clear` is set while a CLEAR
CHANNEL is outstanding (R118). -/
structure Wac where
  state : WacState
  dose : Option Dose
  valve : LinkRecord
  pump : PumpRecord
  reservoirLow : Bool
  reservoir : Option Nat
  check : Option StringNo
  pollTimer : Option Nat
  clear : Bool
deriving DecidableEq, Repr

/-- R122. -/
def Wac.reset : Wac where
  state := .idle
  dose := none
  valve := .empty
  pump := .off
  reservoirLow := false
  reservoir := none
  check := none
  pollTimer := none
  clear := false

/-! ### Chapter 7: the Window and Plant Unit -/

/-- The four fields of the plant status record that are absent until the first report (Table 7.3). -/
structure PlantReport where
  discharge : Bool
  busVoltage : Nat
  load : Nat
  headroom : Int
deriving DecidableEq, Repr

/-- The Window and Plant Unit (Table 7.1). "Reported since reset" is whether `report` is present. `aged` is
whether the latest tick found the age above the staleness time, so that its passing is seen once (R127);
`staleDue` marks a passing that SITE_TICK has handed over and STALE has not yet taken. -/
structure PlantUnit where
  windowOpen : Bool
  budget : Nat
  remaining : Nat
  report : Option PlantReport
  age : Nat
  hold : Bool
  stale : Bool
  aged : Bool
  staleDue : Bool
  windowNeeded : Bool
deriving DecidableEq, Repr

/-- Table 7.5. -/
def PlantUnit.reset : PlantUnit where
  windowOpen := false
  budget := 0
  remaining := 0
  report := none
  age := 0
  hold := false
  stale := true
  aged := false
  staleDue := false
  windowNeeded := false

/-! ### Chapter 8: the string loop -/

/-- The commands of the members with their request data (R141 to R143, Table 10.12). -/
inductive LoopCommand where
  | readSummary
  | readCells
  | setValve (opening : Bool)
  | writeConfig (threshold : Half)
  | attach (string : StringNo)
  | detach
  | standby
  | setPoint (target perm : Half)
  | readBoost
  | pumpOn
  | pumpOff
  | readWater
deriving DecidableEq, Repr

/-- The claims of the Demand Unit (R144 level 2): a poll, or the reconfiguration write of a node. -/
inductive DemandJob where
  | poll
  | config (node : StringNo)
deriving DecidableEq, Repr

/-- The claims of the Water Channel (level 4), each for the purpose its outcome is handled for. -/
inductive WaterJob where
  | check
  | reservoirPoll
  | openValve (string : StringNo)
  | pumpOn
  | dosePoll
  | pumpOff
  | closeValve (string : StringNo)
  | faultPumpOff
  | clearPumpOff
  | clearClose (string : StringNo)
deriving DecidableEq, Repr

/-- The claims of the Equalise Channel (level 5), each for the purpose its outcome is handled for. -/
inductive EqJob where
  | attach (string : StringNo)
  | connectStandby
  | setPoint (setpoint : Setpoint)
  | pauseStandby
  | refresh
  | detach
  | faultDetach
  | clearDetach
deriving DecidableEq, Repr

/-- The ports that own a pass-through slot (Table 8.1). -/
inductive SlotPort where
  | plant | service
deriving DecidableEq, Repr

/-- A transaction of the safe-state sequence (R151). -/
inductive SafeJob where
  | close (string : StringNo)
  | pumpOff
  | attach (string : StringNo)
  | standby (string : StringNo)
  | detach
deriving DecidableEq, Repr

/-- Who a transaction in flight is carried out for. -/
inductive Claimant where
  | reconfiguration (node : StringNo)
  | sweep (item : SweepItem)
  | water (job : WaterJob)
  | equalise (job : EqJob)
  | slot (port : SlotPort)
  | safeState (job : SafeJob)
deriving DecidableEq, Repr

/-- What a transaction waits for (R137, R138): the fixed delay before the reply is awaited, the reply, or
the one fixed delay of class A before the repeat. -/
inductive Wait where
  | delay | reply | autoRepeat
deriving DecidableEq, Repr

/-- A transaction in flight (R138), with the class entry it was granted with (R137). -/
structure Transaction where
  claimant : Claimant
  member : MemberNo
  command : LoopCommand
  cls : ClassEntry
  holds : Nat
  retries : Nat
  wait : Wait
deriving DecidableEq, Repr

/-- What the loop is busy with: a transaction, a demand poll with the confirmation it carries (R155), or a
raw exchange with the octets sent (R149). -/
inductive InFlight where
  | transaction (t : Transaction)
  | poll (confirmation : Option (MemberNo × DemandKind))
  | raw (sent : List Octet)
deriving DecidableEq, Repr

/-- Transaction outcomes (R138). -/
inductive TxOutcome where
  | answer (data : List Octet)
  | fault (code : Octet)
  | holdExhausted
  | noAnswer
  | lineFault
deriving DecidableEq, Repr

/-- What a done slot holds (R145, R146, R149). -/
inductive SlotResult where
  | outcome (o : TxOutcome)
  | locked
  | raw (octets : List Octet) (spoiled : Bool)
deriving DecidableEq, Repr

/-- A pass-through slot (R145). -/
inductive Slot where
  | empty
  | waiting (member : MemberNo) (command : LoopCommand)
  | inFlight
  | done (result : SlotResult)
deriving DecidableEq, Repr

/-- The steps of the safe-state sequence that remain (R151). -/
inductive SafeStep where
  | close (string : StringNo)
  | pumpOff
  | boost
deriving DecidableEq, Repr

/-- The release state (Table 8.3). RELEASED holds a mark that a tick found the release limit reached. SAFE-STATE holds whether a TAKE LOOP is recorded and the steps to come: none while the
sequence waits for a Service exchange still in flight (R150). -/
inductive Release where
  | free
  | pending
  | released (expired : Bool)
  | safeState (recorded : Bool) (todo : Option (List SafeStep))
deriving DecidableEq, Repr

/-- The Loop Controller (Table 8.1). The map, class table and release limit are settings. At most one pending
claim stands per claimant (R144): `claimDemand` to `claimEqualise`; a slot's is its waiting state. The release timer
starts at 0 at each grant and counts in RELEASED (R148, R149); elsewhere it rests at what it came to, which nothing reads
(assumption 46). -/
structure Loop where
  present : Vector Bool 10
  failures : Vector Nat 10
  inFlight : Option InFlight
  claimDemand : Option DemandJob
  claimSweep : Option SweepItem
  claimWater : Option WaterJob
  claimEqualise : Option EqJob
  plantSlot : Slot
  serviceSlot : Slot
  release : Release
  releaseTimer : Nat
deriving DecidableEq, Repr

/-- Table 8.4, with the sequence begun: no string is named, so the caller of a reset with installed strings
gives the closes (Machine/Reset.lean). The transaction in flight is the sequence's own first (R151). -/
def Loop.reset : Loop where
  present := Vector.replicate 10 true
  failures := Vector.replicate 10 0
  inFlight := none
  claimDemand := none
  claimSweep := none
  claimWater := none
  claimEqualise := none
  plantSlot := .empty
  serviceSlot := .empty
  release := .safeState false none
  releaseTimer := 0

/-! ### Chapter 9: the Demand Unit -/

/-- A demand word (Table 10.8). -/
structure DemandWord where
  member : MemberNo
  kind : DemandKind
  value : Half
deriving DecidableEq, Repr

/-- A Demand FIFO entry (R159). -/
structure FifoEntry where
  word : DemandWord
  time : Option Quad
deriving DecidableEq, Repr

/-- The poll state (R154). -/
inductive PollState where
  | idle | spacing | claimed | inFlight
deriving DecidableEq, Repr

/-- The Demand Unit (Table 9.1). `line` is the level of the DEMAND line, true for asserted; `list` gives the
wait of each String Node in the reconfiguration list; `rewrite` marks a NODE RESTART of the node whose
write is in flight (R158). The FIFO is oldest first. -/
structure DemandUnit where
  line : Bool
  poll : PollState
  failures : Nat
  owed : Option (MemberNo × DemandKind)
  list : Vector (Option Nat) 8
  rewrite : Bool
  fifo : List FifoEntry
  overflow : Bool
  dropped : Nat
deriving DecidableEq, Repr

/-- R162 with no string installed; the caller of a reset adds the installed strings' nodes. -/
def DemandUnit.reset : DemandUnit where
  line := false
  poll := .idle
  failures := 0
  owed := none
  list := Vector.replicate 8 none
  rewrite := false
  fifo := []
  overflow := false
  dropped := 0

/-! ### Chapter 10: the Port Units -/

/-- A set of notice sources: bit n for the source of mask bit n (R169). -/
abbrev NoticeSet := BitVec 12

/-- Line rates (R163). -/
inductive LineRate where
  | b9600 | b19200 | b38400
deriving DecidableEq, Repr

/-- Status values (Table 10.2), in its order. -/
inductive Status where
  | done | doneClamped | accepted | merged | notPermitted | busy | range | full | locked | notFound
  | barred | absent | running | notPresent
deriving DecidableEq, Repr

/-- A reply frame without marker, length and check (Table 10.6). -/
structure Reply where
  code : Octet
  tag : Octet
  status : Status
  results : List Octet
deriving DecidableEq, Repr

/-- The receive state (R164). FRAME holds the length octet once it has come, the receive buffer, and whether a
spoiled character came. REPLY OWED holds the reply owed. The gap and idle timers of 20 ms run exactly in
FRAME and in RESYNC; their running out is FRAME_GAP_TIMEOUT and RESYNC_IDLE. -/
inductive RxState where
  | hunt
  | frame (length : Option Octet) (buffer : List Octet) (spoiled : Bool)
  | replyOwed (reply : Reply)
  | resync
deriving DecidableEq, Repr

/-- A Port Unit (Table 10.1). The attention line and the direction output are read off it
(Machine/Flags.lean). -/
structure PortUnit where
  rate : LineRate
  rx : RxState
  pending : NoticeSet
  enabled : NoticeSet
deriving DecidableEq, Repr

/-- R170, at the line rate sampled. -/
def PortUnit.reset (rate : LineRate) : PortUnit where
  rate := rate
  rx := .hunt
  pending := 0
  enabled := 0

/-- The three Port Units. -/
structure Ports where
  plant : PortUnit
  energy : PortUnit
  service : PortUnit
deriving DecidableEq, Repr

/-! ### Chapter 11: the Round Log -/

/-- Record kinds, in the order of Table 10.9. -/
inductive RecordKind where
  | equalise | water | cancelled | displaced | restart
deriving DecidableEq, Repr

/-- Outcome names of Table 10.9, in its order (01h to 07h). -/
inductive OutcomeName where
  | finished | timed | aborted | cancelled | delivered | full | stopped
deriving DecidableEq, Repr

/-- The status summary (Table 10.9, octets 30 and 31), with the bus voltage and the load current that R126 has it
carry, absent until the first report; no octet of Table 10.9 shows these two (assumption 39). -/
structure StatusSummary where
  discharge : Bool
  busVoltage : Option Nat
  load : Option Nat
  stale : Bool
  held : Bool
  windowOpen : Bool
  eqc : EqcState
  wac : WacState
  reservoirLow : Bool
deriving DecidableEq, Repr

/-- A Round Log record by its fields (Tables 10.9 and 11.2). -/
structure LogRecord where
  sequence : Half
  kind : RecordKind
  entryKind : Option Kind
  number : Option Half
  string : Option StringNo
  origin : Option Origin
  outcome : Option OutcomeName
  cause : Option Cause
  start : Option Quad
  duration : Half
  charge : Int
  overcharge : Nat
  energy : Nat
  peak : Int
  spread : Option Nat
  dose : Nat
  belowMinimum : Bool
  delivered : Nat
  summary : StatusSummary
deriving DecidableEq, Repr

/-- The Round Log (Table 11.1): 64 places, the write position, the two counters, the segment-full flags and
the overrun set. -/
structure RoundLog where
  places : Vector (Option LogRecord) 64
  position : Fin 64
  sequence : Half
  roundNumber : Half
  full : Vector Bool 4
  overrun : Vector Bool 4
deriving DecidableEq, Repr

/-- R174: the log when retention memory is cleared. -/
def RoundLog.cleared : RoundLog where
  places := Vector.replicate 64 none
  position := 0
  sequence := 0
  roundNumber := 0
  full := Vector.replicate 4 false
  overrun := Vector.replicate 4 false

/-- R174, Table 11.2: the RESTART record with the status summary the reset leaves. -/
def LogRecord.restart (sequence : Half) (cause : Cause) (start : Option Quad) : LogRecord where
  sequence := sequence
  kind := .restart
  entryKind := none
  number := none
  string := none
  origin := none
  outcome := none
  cause := some cause
  start := start
  duration := 0
  charge := 0
  overcharge := 0
  energy := 0
  peak := 0
  spread := none
  dose := 0
  belowMinimum := false
  delivered := 0
  summary :=
    { discharge := false, busVoltage := none, load := none, stale := true, held := false, windowOpen := false,
      eqc := .idle, wac := .idle, reservoirLow := false }

/-! ### The whole part -/

/-- The ticks counted from the last reset, modulo an hour, with marks for a minute and a site hour that
SITE_TICK has handed over and SITE_MINUTE and SITE_HOUR have not yet taken (R5, R11). -/
structure Timebase where
  ticks : Nat
  minuteDue : Bool
  hourDue : Bool
deriving DecidableEq, Repr

def Timebase.reset : Timebase where
  ticks := 0
  minuteDue := false
  hourDue := false

/-- The state of the ZE8. `free` counts the free choices taken so far (the model's own field, assumption 2).
`pending` is the queue of commands that wait, first in, first out. -/
structure State where
  time : Timebase
  clock : Option Quad
  strings : Vector StringRecord 8
  sweep : Sweep
  schedule : ScheduleTimer
  queue : List QueueEntry
  eqc : Eqc
  wac : Wac
  plant : PlantUnit
  loop : Loop
  demand : DemandUnit
  ports : Ports
  log : RoundLog
  settings : Settings
  store : Store
  free : Nat
  pending : List Instr
deriving DecidableEq, Repr

/-- The ZE8 stops on nothing: every error is a status, an outcome, a notice or a channel state. No command
raises a fault, so the type is empty. -/
inductive Fault : Type
deriving DecidableEq, Repr

/-- Why a command has no meaning in the model. -/
inductive Refusal where
  /-- Raised by exec's refused arms alone, for a command not modelled yet. Safe: nothing is claimed of it. No
  arm is refused. -/
  | notModelled (mnemonic : String)
deriving DecidableEq, Repr

/-- The part right after power-on, with a store whose check fails (so the factory defaults, R177, and no
string installed), all straps low (R163), the RESTART record written (R174), SETTINGS STORED pending (R170,
R177) and the safe-state sequence begun with PUMP OFF in flight, since there is no valve to close (R151). -/
def State.reset : State where
  time := Timebase.reset
  clock := none
  strings := Vector.replicate 8 StringRecord.powerOn
  sweep := Sweep.reset
  schedule := ScheduleTimer.reset
  queue := []
  eqc := Eqc.reset
  wac := Wac.reset
  plant := PlantUnit.reset
  loop :=
    { Loop.reset with
      inFlight := some (.transaction
        { claimant := .safeState .pumpOff, member := 9, command := .pumpOff,
          cls := ClassEntry.factory 9, holds := 0, retries := 0, wait := .reply })
      release := .safeState false (some [.boost]) }
  demand := DemandUnit.reset
  ports :=
    { plant := { PortUnit.reset .b9600 with pending := 0x200#12 }
      energy := { PortUnit.reset .b9600 with pending := 0x200#12 }
      service := { PortUnit.reset .b9600 with pending := 0x200#12 } }
  log :=
    { RoundLog.cleared with
      places := (Vector.replicate 64 none).set 0 (some (LogRecord.restart 0 .powerOn none))
      position := 1
      sequence := 1 }
  settings := Settings.factory
  store :=
    { copy := Settings.factory, checkHolds := false, storing := false, modified := false,
      defaulted := true }
  free := 0
  pending := []

end Sys2Proof.Machine
end

