-- ==== Sys2Proof/Machine/Flags.lean ====
section
/-! DEFINITION. The notices: pending sets, enable sets and attention lines (R168), and the site conditions
as the Window and Plant Unit derives them (7.5). -/

namespace Sys2Proof.Machine

/-- The mask bit of a source (Table 10.4). -/
def Notice.bit : Notice → Nat
  | .roundEnded => 0
  | .roundPaused => 1
  | .windowNeeded => 2
  | .demandPending => 3
  | .demandOverflow => 4
  | .segmentFull => 5
  | .logOverrun => 6
  | .channelFault => 7
  | .loopResultReady => 8
  | .settingsStored => 9
  | .plantStale => 10
  | .cellAlarm => 11

/-- The set that holds one source. -/
def Notice.mask (n : Notice) : NoticeSet :=
  1#12 <<< n.bit

def Ports.get (ps : Ports) : Port → PortUnit
  | .plant => ps.plant
  | .energy => ps.energy
  | .service => ps.service

def Ports.put (ps : Ports) (p : Port) (u : PortUnit) : Ports :=
  match p with
  | .plant => { ps with plant := u }
  | .energy => { ps with energy := u }
  | .service => { ps with service := u }

/-- Add a set of sources to a port's pending set. -/
def PortUnit.addPending (u : PortUnit) (m : NoticeSet) : PortUnit :=
  { u with pending := u.pending ||| m }

/-- A raising event sets its source in the pending set of all three ports as one event (R168). -/
def raise (n : Notice) (s : State) : State :=
  { s with ports :=
      { plant := s.ports.plant.addPending n.mask
        energy := s.ports.energy.addPending n.mask
        service := s.ports.service.addPending n.mask } }

/-- The attention line is asserted while the pending and the enable set intersect (R168). -/
def PortUnit.attention (u : PortUnit) : Bool :=
  u.pending &&& u.enabled ≠ 0

/-- The direction output is at transmit only for a reply (R163): here, exactly in REPLY OWED (assumption 22). -/
def PortUnit.transmits (u : PortUnit) : Bool :=
  match u.rx with
  | .replyOwed _ => true
  | _ => false

/-- DISCHARGE stands while the supply field reads DISCHARGE (R128). -/
def PlantUnit.discharge (w : PlantUnit) : Bool :=
  match w.report with
  | some r => r.discharge
  | none => false

/-- The headroom current; an absent headroom is taken as 0 (R126). -/
def PlantUnit.headroom (w : PlantUnit) : Int :=
  match w.report with
  | some r => r.headroom
  | none => 0

/-- Change one port. -/
def modPort (p : Port) (f : PortUnit → PortUnit) (s : State) : State :=
  { s with ports := s.ports.put p (f (s.ports.get p)) }

end Sys2Proof.Machine
end

