-- ==== Sys2Proof/Machine/Ops.lean ====
section
/-! DEFINITION. The shared operations over the String Condition Table, the Round Queue and the Round Log that
every block calls on: records, log writes, posts, removals, releases and histories. -/

namespace Sys2Proof.Machine

/-! ### Members -/

/-- The String Node of a string is the member at address equal to the string position (R1). -/
def nodeOf (i : StringNo) : MemberNo := ⟨i.val, Nat.lt_trans i.isLt (by decide)⟩

/-- The string whose node a member address is, if it is a node's. -/
def stringOf (m : MemberNo) : Option StringNo :=
  if h : m.val < 8 then some ⟨m.val, h⟩ else none

def boostUnit : MemberNo := 8
def waterUnit : MemberNo := 9

def isPresent (s : State) (m : MemberNo) : Bool := s.loop.present[m]

def isInstalled (s : State) (i : StringNo) : Bool := s.settings.installed[i]

/-! ### String records -/

/-- Who holds a string (R6). -/
inductive Holder where
  | none | eqc | wac
deriving DecidableEq, Repr

/-- The holder is EQC exactly in EQUALISE and WAC exactly in WATER (R6). -/
def StringState.holder : StringState → Holder
  | .equalise _ => .eqc
  | .water _ => .wac
  | _ => .none

/-- The bar cause, present only in BARRED. -/
def StringState.barCause : StringState → Option BarCause
  | .barred c => some c
  | _ => .none

/-- The pending bar, present only on a held string. -/
def StringState.pendingBar : StringState → Option BarCause
  | .equalise b => b
  | .water b => b
  | _ => .none

/-- Settle remaining, above 0 only in SETTLE. -/
def StringState.remaining : StringState → Nat
  | .settle n => n
  | _ => 0

def recordOf (s : State) (i : StringNo) : StringRecord := s.strings[i]

def modString (i : StringNo) (f : StringRecord → StringRecord) (s : State) : State :=
  { s with strings := s.strings.set i (f s.strings[i]) }

def setStringState (i : StringNo) (st : StringState) (s : State) : State :=
  modString i (fun r => { r with state := st }) s

/-- The largest of a cell list minus the smallest (R2). -/
def spreadOf (cells : Vector Nat 24) : Nat :=
  cells.toList.foldl max cells[0] - cells.toList.foldl min cells[0]

/-- The cell spread, absent exactly when the cell list is absent (Table 1.2). -/
def StringRecord.spread (r : StringRecord) : Option Nat :=
  r.cells.map spreadOf

/-- Add discharge in 0.1 A·s to the throughput (R4): each 3600 of the remainder is one 0.1 Ah, the count
saturates at 1 000 000, and from then on further additions change neither count nor remainder. -/
def addThroughput (add : Nat) (r : StringRecord) : StringRecord :=
  if 1000000 ≤ r.throughput then r
  else
    { r with
      throughput := satAdd 1000000 r.throughput ((r.remainder + add) / 3600)
      remainder := (r.remainder + add) % 3600 }

/-! ### Round outcomes -/

/-- FINISHED and TIMED complete an equalise round (R8). -/
def EqOutcome.completes : EqOutcome → Bool
  | .finished | .timed => true
  | _ => false

def EqOutcome.name : EqOutcome → OutcomeName
  | .finished => .finished
  | .timed => .timed
  | .aborted _ => .aborted
  | .cancelled => .cancelled

def EqOutcome.cause : EqOutcome → Option Cause
  | .aborted c => some c
  | _ => none

/-- DELIVERED, FULL and TIMED set hours since water to 0 (R9). -/
def WaterOutcome.completes : WaterOutcome → Bool
  | .delivered | .full | .timed => true
  | _ => false

def WaterOutcome.name : WaterOutcome → OutcomeName
  | .delivered => .delivered
  | .full => .full
  | .timed => .timed
  | .stopped => .stopped
  | .cancelled => .cancelled
  | .aborted _ => .aborted

def WaterOutcome.cause : WaterOutcome → Option Cause
  | .aborted c => some c
  | _ => none

/-- The cause a bar's round abort carries (R13): BARRED for a bar BY REQUEST, the bar's own otherwise. -/
def BarCause.abortCause : BarCause → Cause
  | .byRequest => .barred
  | .nodeLost => .nodeLost
  | .valveFault => .valveFault
  | .detachFailed => .detachFailed
  | .closeFailed => .closeFailed

/-- DETACH FAILED and CLOSE FAILED replace any other cause (R13, R14). -/
def BarCause.replaces : BarCause → Bool
  | .detachFailed | .closeFailed => true
  | _ => false

/-! ### The Round Log (R171, R172) -/

/-- The status summary at this moment (R126, R133, R171). -/
def summaryOf (s : State) : StatusSummary where
  discharge := s.plant.discharge
  busVoltage := s.plant.report.map PlantReport.busVoltage
  load := s.plant.report.map PlantReport.load
  stale := s.plant.stale
  held := s.plant.hold
  windowOpen := s.plant.windowOpen
  eqc := s.eqc.state
  wac := s.wac.state
  reservoirLow := s.wac.reservoirLow

/-- The segment of a write position (Table 11.1). -/
def segmentOf (p : Fin 64) : Fin 4 := ⟨p.val / 16, by omega⟩

def indexOf (p : Fin 64) : Nat := p.val % 16

/-- A write into a full segment makes it join the overrun set; on joining LOG OVERRUN is set (R172, 1). -/
def noteOverrun (s : State) : State :=
  let g := segmentOf s.log.position
  if s.log.full[g] && !s.log.overrun[g] then
    raise .logOverrun { s with log := { s.log with overrun := s.log.overrun.set g true } }
  else s

/-- The record is placed at the write position with the next sequence number (R171). -/
def placeRecord (r : LogRecord) (s : State) : State :=
  { s with log :=
      { s.log with
        places := s.log.places.set s.log.position (some { r with sequence := s.log.sequence })
        position := s.log.position + 1
        sequence := s.log.sequence + 1 } }

/-- The record written at index 15 sets the segment's flag and SEGMENT FULL (R172, 2). -/
def noteFull (p : Fin 64) (s : State) : State :=
  if indexOf p = 15 then
    raise .segmentFull { s with log := { s.log with full := s.log.full.set (segmentOf p) true } }
  else s

/-- One log write (R171, R172): the record takes the sequence counter's value. -/
def logWrite (r : LogRecord) (s : State) : State :=
  noteFull s.log.position (placeRecord r (noteOverrun s))

/-- A round's duration in whole minutes from its ticks (Table 11.2); a free value where the two octets of
Table 10.9 cannot hold it (assumption 6). -/
def durationOf (ticks : Nat) : Half :=
  if ticks / 60 ≤ 65535 then BitVec.ofNat 16 (ticks / 60) else Config.longDuration ticks

/-! ### Queue entries -/

def Work.kind : Work → Kind
  | .equalise _ => .equalise
  | .water _ => .water

def QueueEntry.kind (e : QueueEntry) : Kind := e.work.kind

/-- The recipe or dose limit of an entry, as its log record carries it (Table 10.9, octets 26 and 27). -/
def Work.field : Work → Nat
  | .equalise r => r.val
  | .water n => n

/-- Two entries for the same round: the same kind and string (R44). -/
def QueueEntry.same (e : QueueEntry) (k : Kind) (i : StringNo) : Bool :=
  e.kind = k ∧ e.string = i

def QueueEntry.urgent (e : QueueEntry) : Bool := e.urgency = .urgent

/-- Queue order (R44): every URGENT entry, then every NORMAL one, each class in arrival order. -/
def queueOrder (q : List QueueEntry) : List QueueEntry :=
  q.filter QueueEntry.urgent ++ q.filter (fun e => !e.urgent)

def findEntry (k : Kind) (i : StringNo) (q : List QueueEntry) : Option QueueEntry :=
  q.find? (fun e => e.same k i)

/-- The record of an entry that leaves without a round: CANCELLED or DISPLACED (R49, R51, R52). -/
def entryRecord (kind : RecordKind) (outcome : Option OutcomeName) (cause : Option Cause)
    (e : QueueEntry) (s : State) : LogRecord where
  sequence := 0
  kind := kind
  entryKind := some e.kind
  number := none
  string := some e.string
  origin := some e.origin
  outcome := outcome
  cause := cause
  start := s.clock
  duration := 0
  charge := 0
  overcharge := 0
  energy := 0
  peak := 0
  spread := none
  dose := e.work.field
  belowMinimum := false
  delivered := 0
  summary := summaryOf s

def dropEntry (k : Kind) (i : StringNo) (s : State) : State :=
  { s with queue := s.queue.filter (fun e => !e.same k i) }

/-- One entry is removed and logged CANCELLED with its cause (R51, R52). -/
def cancelEntry (cause : Cause) (e : QueueEntry) (s : State) : State :=
  let s1 := dropEntry e.kind e.string s
  logWrite (entryRecord .cancelled (some .cancelled) (some cause) e s1) s1

/-- A bar handed to the queue: every entry naming the string is removed in queue order, each logged
CANCELLED with cause BARRED (R51). -/
def removeBarred (i : StringNo) (s : State) : State :=
  ((queueOrder s.queue).filter (fun e => e.string = i)).foldl (fun acc e => cancelEntry .barred e acc) s

/-! ### Posts (R19, R45 to R49) -/

/-- The string's standing (R19). -/
inductive Standing where
  | absent | barred | running | clear
deriving DecidableEq, Repr

def standing (s : State) (k : Kind) (i : StringNo) : Standing :=
  if !isInstalled s i || !isPresent s (nodeOf i) then .absent
  else match k, (recordOf s i).state with
    | _, .barred _ => .barred
    | _, .equalise (some _) => .barred
    | _, .water (some _) => .barred
    | .equalise, .equalise none => .running
    | .equalise, .settle _ => .running
    | .water, .water none => .running
    | _, _ => .clear

/-- The result of a post (Table 3.1). -/
inductive PostResult where
  | added | merged | refused (status : Status)
deriving DecidableEq, Repr

/-- A dose limit is clamped to 1 mL to Dmax (R45). -/
def clampWork (dmax : Nat) : Work → Work
  | .equalise r => .equalise r
  | .water n => .water (max 1 (min n dmax))

/-- R47: the higher urgency; for WATER the larger dose limit; recipe, origin and arrival are kept. -/
def mergeInto (post e : QueueEntry) : QueueEntry :=
  { e with
    urgency := if e.urgent || post.urgent then .urgent else .normal
    work := match e.work, post.work with
      | .water a, .water b => .water (max a b)
      | w, _ => w }

/-- The youngest NORMAL entry: the NORMAL entry that stands latest in the arrival list (R44). -/
def youngestNormal (q : List QueueEntry) : Option QueueEntry :=
  q.reverse.find? (fun e => !e.urgent)

def addEntry (e : QueueEntry) (s : State) : State :=
  { s with queue := s.queue ++ [e] }

/-- R49: the displaced entry is removed and logged, then the new one joins. -/
def displace (old e : QueueEntry) (s : State) : State :=
  let s1 := dropEntry old.kind old.string s
  addEntry e (logWrite (entryRecord .displaced none none old s1) s1)

/-- R46, steps 2 to 6. -/
def judgePost (e : QueueEntry) (s : State) : State × PostResult :=
  match findEntry e.kind e.string s.queue with
  | some _ =>
    ({ s with queue := s.queue.map (fun x => if x.same e.kind e.string then mergeInto e x else x) }, .merged)
  | none =>
    if s.queue.length < Config.queueCapacity then (addEntry e s, .added)
    else if e.urgent then
      match youngestNormal s.queue with
      | some old => (displace old e s, .added)
      | none => (s, .refused .full)
    else (s, .refused .full)

/-- A post as the Round Queue judges it (R46), after the clamp of R45. -/
def post (e : QueueEntry) (s : State) : State × PostResult :=
  match standing s e.kind e.string with
  | .absent => (s, .refused .absent)
  | .barred => (s, .refused .barred)
  | .running => (s, .refused .running)
  | .clear => judgePost { e with work := clampWork s.settings.dmax e.work } s

/-! ### Histories and release (R8 to R10) -/

/-- R8: the outcome of an equalise round goes into the string's history. -/
def takeEqualiseOutcome (i : StringNo) (o : EqOutcome) : State → State :=
  modString i fun r =>
    let r := { r with lastEqualise := some o }
    if o.completes then { r with hoursEqualise := some 0, throughput := 0, remainder := 0 } else r

/-- R9: the outcome of a watering round goes into the string's history. -/
def takeWaterOutcome (i : StringNo) (o : WaterOutcome) (delivered : Nat) : State → State :=
  modString i fun r =>
    let r := { r with
      waterTotal := satAdd 4294967295 r.waterTotal delivered
      lastWater := some (o, delivered) }
    if o.completes then { r with hoursWater := some 0 } else r

/-- R10, the next state at a release: `mark` is DETACH FAILED or CLOSE FAILED where the channel marks it,
`settle` the recipe's settle time after FINISHED or TIMED. -/
def releasedState (pendingBar mark : Option BarCause) (settle : Option Nat) : StringState :=
  match mark, pendingBar, settle with
  | some c, _, _ => .barred c
  | none, some c, _ => .barred c
  | none, none, some (n + 1) => .settle (n + 1)
  | none, none, _ => .float

/-- R10: the release of a held string. Entries are removed at the release only where a mark finds no
pending bar. A release of a string that is not held changes nothing. -/
def releaseString (i : StringNo) (mark : Option BarCause) (settle : Option Nat) (s : State) : State :=
  match (recordOf s i).state with
  | .equalise b =>
    let s1 := setStringState i (releasedState b mark settle) s
    if mark.isSome && b.isNone then removeBarred i s1 else s1
  | .water b =>
    let s1 := setStringState i (releasedState b mark settle) s
    if mark.isSome && b.isNone then removeBarred i s1 else s1
  | _ => s

/-! ### Changing one block -/

def modSweep (f : Sweep → Sweep) (s : State) : State := { s with sweep := f s.sweep }
def modEqc (f : Eqc → Eqc) (s : State) : State := { s with eqc := f s.eqc }
def modWac (f : Wac → Wac) (s : State) : State := { s with wac := f s.wac }
def modPlant (f : PlantUnit → PlantUnit) (s : State) : State := { s with plant := f s.plant }
def modLoop (f : Loop → Loop) (s : State) : State := { s with loop := f s.loop }
def modDemand (f : DemandUnit → DemandUnit) (s : State) : State := { s with demand := f s.demand }

/-! ### Claims at the arbiter (R144) -/

def claimWater (j : WaterJob) (s : State) : State :=
  modLoop (fun l => { l with claimWater := some j }) s

def claimEqualise (j : EqJob) (s : State) : State :=
  modLoop (fun l => { l with claimEqualise := some j }) s

/-- A withdrawn claim leaves no trace (R144). -/
def withdrawWater (s : State) : State :=
  modLoop (fun l => { l with claimWater := none }) s

def withdrawEqualise (s : State) : State :=
  modLoop (fun l => { l with claimEqualise := none }) s

/-- The Equalise Channel's own transaction in flight. -/
def equaliseInFlight (s : State) : Option EqJob :=
  match s.loop.inFlight with
  | some (.transaction t) => match t.claimant with | .equalise j => some j | _ => none
  | _ => none

/-- The Water Channel's own transaction in flight. -/
def waterInFlight (s : State) : Option WaterJob :=
  match s.loop.inFlight with
  | some (.transaction t) => match t.claimant with | .water j => some j | _ => none
  | _ => none

/-- The safe-state sequence's transaction in flight. -/
def safeInFlight (s : State) : Option SafeJob :=
  match s.loop.inFlight with
  | some (.transaction t) => match t.claimant with | .safeState j => some j | _ => none
  | _ => none

/-- Whether a link record names the string. -/
def LinkRecord.holds (l : LinkRecord) (i : StringNo) : Bool :=
  match l with
  | .names j _ => j = i
  | .empty => false

/-- The same string, marked unconfirmed (R62, R103). -/
def LinkRecord.unconfirm : LinkRecord → LinkRecord
  | .names j _ => .names j false
  | .empty => .empty

/-- The next round number: the counter advances by 1, wrapping (R61). -/
def drawNumber (s : State) : State × Half :=
  let n := s.log.roundNumber + 1
  ({ s with log := { s.log with roundNumber := n } }, n)

/-- The loop is neither released, nor pending release, nor in the safe-state sequence (R54, R55). -/
def loopFree (s : State) : Bool := s.loop.release = .free

end Sys2Proof.Machine
end

