-- ==== Sys2Proof/Machine/Charge.lean ====
section
/-! DEFINITION. The Charge Accounting Unit: the stages of 5.4 to 5.10 (R88 to R101), on integers. Each computation
reads its inputs from the state at the moment it is taken. -/

namespace Sys2Proof.Machine

/-! ### Stage 1: compensation temperature (R89) -/

/-- The temperature is fresh when its age is not above three times the sweep interval in force. -/
def tempFresh (s : State) (i : StringNo) : Bool :=
  (recordOf s i).age ≤ 3 * s.settings.sweepInterval

/-- θ, where it is fresh. -/
def freshTemp (s : State) (i : StringNo) : Option Int :=
  if tempFresh s i then some (recordOf s i).temperature else none

/-- θc: θ clamped to 0–500 when fresh, and 500 when stale. -/
def compensationTemp (fresh : Option Int) : Int :=
  match fresh with
  | some t => clampTo 0 500 t
  | none => 500

/-! ### Stage 2: voltage target (R90) -/

/-- Vtarget in mV: 24 times the compensated cell voltage, the compensation truncated toward zero. -/
def voltageTarget (rc : Recipe) (tc : Int) : Nat :=
  24 * (clampTo 2200 rc.vmax ((rc.vt25 : Int) + Int.tdiv (rc.k * (tc - 250)) 100)).toNat

/-! ### Stage 3: current permission (R91, R92) -/

/-- Bav in W: the window budget, 0 while the window is CLOSED, minus the pump power while the pump record
is on, floored at 0. -/
def budgetAvailable (s : State) : Nat :=
  (if s.plant.windowOpen then s.plant.budget else 0) -
    (if s.wac.pump = .off then 0 else s.settings.pumpPower)

/-- Ibud in 0.1 A, with Vs clamped to at least 43 200 mV. -/
def budgetCurrent (bav vs : Nat) : Nat :=
  bav * 10000 / max vs 43200

/-- The least of Ilim, Ibud and the plant headroom, floored at 0. -/
def leastCurrent (rc : Recipe) (ibud : Nat) (headroom : Int) : Nat :=
  (min (min (rc.ilim : Int) (ibud : Int)) headroom).toNat

/-- Iperm in 0.1 A: halved when a fresh θ is at or above the derate temperature. -/
def permittedCurrent (s : State) (rc : Recipe) (fresh : Option Int) (vs : Nat) : Nat :=
  let least := leastCurrent rc (budgetCurrent (budgetAvailable s) vs) s.plant.headroom
  match fresh with
  | some t => if (rc.derateTemp : Int) ≤ t then least / 2 else least
  | none => least

/-- Stages 1 to 3 for a round at voltage reading Vs: the setpoint of stage 4 (R93). -/
def setpointAt (s : State) (r : Round) (vs : Nat) : Setpoint :=
  let fresh := freshTemp s r.string
  { target := voltageTarget r.recipe (compensationTemp fresh)
    perm := permittedCurrent s r.recipe fresh vs }

/-- Iperm below the recipe's Imin (R92). -/
def Setpoint.low (sp : Setpoint) (rc : Recipe) : Bool := sp.perm < rc.imin

/-! ### Stage 5: integration (R94, R95) -/

/-- The three additions of R94 over a period of `t` seconds. -/
def integrate (rd : Reading) (t : Nat) (ph : Phase) (a : Accounting) : Accounting :=
  { a with
    charge := satAddInt (-2147483648) 2147483647 a.charge (rd.is * t)
    overcharge :=
      if ph = .hold ∧ 0 < rd.is then satAdd 4294967295 a.overcharge (rd.is.toNat * t) else a.overcharge
    energy := if 0 < rd.is then satAdd 281474976710655 a.energy (rd.vs * rd.is.toNat * t) else a.energy }

/-- The peak fresh temperature (R97). The model's choice for a stale temperature beside an absent peak (assumption 40): the
peak stays absent. -/
def updatePeak (fresh : Option Int) (a : Accounting) : Accounting :=
  match fresh with
  | none => a
  | some t =>
    match a.peak with
    | none => { a with peak := some t }
    | some p => if p < t then { a with peak := some t } else a

/-! ### Stage 7: plateau (R98, R99) -/

/-- A new plateau window (R98). -/
def startWindow (a : Accounting) : Accounting :=
  { a with windowTime := 0, windowMin := none }

/-- The first window, at entry to HOLD and at a resume: no previous minimum, plateau count 0 (R97, R98). -/
def firstWindow (a : Accounting) : Accounting :=
  { startWindow a with prevMin := none, plateau := 0 }

/-- R98, steps 1 and 2: the period's length joins the hold time; an answered Is below the minimum, or the
first, becomes it. -/
def feedWindow (answered : Option Int) (t : Nat) (a : Accounting) : Accounting :=
  let a := { a with windowTime := satAdd Config.secondsTop a.windowTime t }
  match answered with
  | none => a
  | some i =>
    match a.windowMin with
    | none => { a with windowMin := some i }
    | some m => if i < m then { a with windowMin := some i } else a

/-- R99: the judgement of a window closed at an answered period with minimum `m`. -/
def judgeWindow (rc : Recipe) (holdElapsed : Nat) (m : Int) (a : Accounting) : Accounting :=
  let a1 := match a.prevMin with
    | some p =>
      if rc.minHold * 60 ≤ holdElapsed then
        if p - m ≤ rc.plateauTolerance then { a with plateau := a.plateau + 1 } else { a with plateau := 0 }
      else { a with plateau := 0 }
    | none => { a with plateau := 0 }
  { a1 with prevMin := some m }

/-- R98, step 3, and R99: a window whose hold time is at or above the plateau window closes, is judged where
it closed at an answered period holding a minimum, and a new one starts. -/
def closeWindow (rc : Recipe) (holdElapsed : Nat) (answered : Bool) (a : Accounting) : Accounting :=
  if rc.plateauWindow * 60 ≤ a.windowTime then
    match answered, a.windowMin with
    | true, some m => startWindow (judgeWindow rc holdElapsed m a)
    | _, _ => startWindow a
  else a

/-- Stage 7 at an answered period in HOLD. -/
def plateauStage (rc : Recipe) (holdElapsed : Nat) (is : Int) (t : Nat) (a : Accounting) : Accounting :=
  closeWindow rc holdElapsed true (feedWindow (some is) t a)

/-- The hold time at which the maximum hold is reached: a maximum whose seconds lie beyond 65 535 is
reached when hold elapsed saturates (R99). -/
def maxHoldSeconds (rc : Recipe) : Nat := min (rc.maxHold * 60) Config.secondsTop

/-! ### Stage 6: verdicts (R97) -/

/-- The verdicts of Table 5.1. -/
inductive Verdict where
  | continue | enterHold | lowEnergy | decided (o : EqOutcome)
deriving DecidableEq, Repr

/-- Check 3: the period ran in RAISE and Vs reached the approach band. -/
def reachesHold (rc : Recipe) (ph : Phase) (vs target : Nat) : Bool :=
  ph = .raise ∧ target ≤ vs + 24 * rc.approachBand

/-- Stage 6, the checks in order; `a` is the accounting after stage 7. -/
def verdictOf (rc : Recipe) (ph : Phase) (fresh : Option Int) (sp : Setpoint) (vs : Nat)
    (raiseElapsed holdElapsed : Nat) (a : Accounting) : Verdict :=
  let hot := match fresh with | some t => decide ((rc.abortTemp : Int) ≤ t) | none => false
  if sp.target + 1200 < vs then .decided (.aborted .overvoltage)
  else if hot then .decided (.aborted .overTemp)
  else if reachesHold rc ph vs sp.target then (if sp.low rc then .lowEnergy else .enterHold)
  else if ph = .raise ∧ rc.raiseLimit * 60 ≤ raiseElapsed then .decided (.aborted .noRise)
  else if ph = .hold ∧ a.plateau = 2 then .decided .finished
  else if ph = .hold ∧ maxHoldSeconds rc ≤ holdElapsed then .decided .timed
  else if sp.low rc then .lowEnergy
  else .continue

/-! ### The computations (Table 5.5) -/

/-- An answered period: stages 1 to 7. The reply becomes the last fresh reading. Stage 7 runs in every answered period in
HOLD, one whose verdict is an abort too, by the model's choice (assumption 41). -/
def answeredPeriod (s : State) (r : Round) (ph : Phase) (rd : Reading) : Accounting × Verdict :=
  let fresh := freshTemp s r.string
  let sp := setpointAt s r rd.vs
  let a := updatePeak fresh
    (integrate rd r.timer.length ph { r.acct with held := some sp, lastFresh := some rd })
  let a := if ph = .hold then plateauStage r.recipe r.holdElapsed rd.is r.timer.length a else a
  (a, verdictOf r.recipe ph fresh sp rd.vs r.raiseElapsed r.holdElapsed a)

/-- A reply taken for integration after the outcome was decided (R68, R94): stage 5, the last fresh reading
and the peak. R94 leaves out stages 6 and 7 and does not say whether stages 1 to 4 run: the setpoint held stays as it was,
by the model's choice (assumption 55). -/
def integrateOnly (s : State) (r : Round) (ph : Phase) (rd : Reading) : Accounting :=
  updatePeak (freshTemp s r.string)
    (integrate rd r.timer.length ph { r.acct with lastFresh := some rd })

/-- A held period (R69, R95): stages 1 to 5 on the last fresh reading, or on zero current with Vs divided as
43 200 mV, and the window's hold time. -/
def heldPeriod (s : State) (r : Round) (ph : Phase) : Accounting :=
  let rd := r.acct.lastFresh.getD { vs := 0, is := 0 }
  let a := integrate rd r.timer.length ph { r.acct with held := some (setpointAt s r rd.vs) }
  if ph = .hold then closeWindow r.recipe r.holdElapsed false (feedWindow none r.timer.length a) else a

/-- The reading a resume uses (Table 5.5): the last refresh, else the last fresh, else the table's voltage. -/
def resumeVoltage (s : State) (r : Round) : Nat :=
  match r.acct.lastRefresh with
  | some rd => rd.vs
  | none =>
    match r.acct.lastFresh with
    | some rd => rd.vs
    | none => (recordOf s r.string).voltage

/-! ### Reported figures (R96) -/

def chargeReported (a : Accounting) : Int := Int.tdiv a.charge 3600
def overchargeReported (a : Accounting) : Nat := a.overcharge / 3600
def energyReported (a : Accounting) : Nat := a.energy / 36000000

/-! ### Stage 8: the water dose (R100) -/

/-- deq in mL: the quotient rounded up. -/
def equalisePart (overcharge waterFactor : Nat) : Nat :=
  (overcharge * waterFactor * 24 + 35999999) / 36000000

/-- dfl in mL: 0 where hours since water is absent. -/
def floatPart (hoursWater : Option Nat) (floatAllowance : Nat) : Nat :=
  match hoursWater with
  | some h => h * floatAllowance / 24
  | none => 0

/-- The dose, clamped to Dmax. -/
def computedDose (s : State) (r : Round) : Nat :=
  min (equalisePart r.acct.overcharge s.settings.waterFactor
    + floatPart (recordOf s r.string).hoursWater s.settings.floatAllowance) s.settings.dmax

/-- A dose at or above Dmin, and at or above 1 mL, is posted (R101). -/
def dosePosts (s : State) (dose : Nat) : Bool :=
  s.settings.dmin ≤ dose && 1 ≤ dose

end Sys2Proof.Machine
end

