-- ==== Sys2Proof/Machine/Operands.lean ====
section
/-! DEFINITION. Octets and characters on the part's lines: byte order, the receiver (R135), the loop frames
(Tables 10.7, 10.8, 10.12), the request and reply frames (Tables 10.5, 10.6, 10.10) and the encoding of
result fields (Table 10.13). -/

namespace Sys2Proof.Machine

/-! ### Byte order (10.5: most significant octet first, two's complement) -/

def octetsOfHalf (h : Half) : List Octet :=
  [h.extractLsb' 8 8, h.extractLsb' 0 8]

def octetsOfQuad (q : Quad) : List Octet :=
  [q.extractLsb' 24 8, q.extractLsb' 16 8, q.extractLsb' 8 8, q.extractLsb' 0 8]

def halfOf (a b : Octet) : Half := a ++ b

def quadOf (a b c d : Octet) : Quad := a ++ b ++ c ++ d

/-- The two-octet number at octet `i` of a frame's data. -/
def halfAt (data : List Octet) (i : Nat) : Half :=
  halfOf (data.getD i 0) (data.getD (i + 1) 0)

/-- The sum modulo 256 of a frame's octets: 0 in a frame whose check agrees. -/
def octetSum (l : List Octet) : Octet :=
  l.foldl (fun acc o => acc + o) 0

/-- The octet at `i` of a member's reply as a two-valued field (Table 10.12): 00h the first value, 01h the
second, and a free value for any other octet (assumption 5). -/
def flagAt (data : List Octet) (i : Nat) : Bool :=
  let o := data.getD i 0
  if o = 0 then false else if o = 1 then true else Config.oddFlag o

/-! ### The receiver (R135, R163) -/

/-- 2-of-3 sampling: the level at least two of the three samples show. -/
def majority (b : BitVec 3) : Bool :=
  (b.getLsbD 0 && b.getLsbD 1) || (b.getLsbD 0 && b.getLsbD 2) || (b.getLsbD 1 && b.getLsbD 2)

/-- Three equal samples. -/
def steady (b : Bool) : BitVec 3 :=
  if b then 7#3 else 0#3

end Sys2Proof.Machine

namespace Sys2Proof

open Machine

/-- The receiver takes a start bit when at least 2 of 3 samples are low. -/
def LineChar.taken (c : LineChar) : Bool :=
  !majority c.start

/-- The eight data bits as sampled, least significant first. -/
def LineChar.bits (c : LineChar) : List Bool :=
  c.data.toList.map majority

/-- The octet received. -/
def LineChar.octet (c : LineChar) : Octet :=
  BitVec.ofNat 8 (c.bits.foldr (fun b n => (if b then 1 else 0) + 2 * n) 0)

/-- Spoiled: the parity bit does not give even parity over the data and parity bits, or the stop bit is
read low. -/
def LineChar.spoiled (c : LineChar) : Bool :=
  c.bits.foldr (fun b p => xor b p) (majority c.parity) || !majority c.stop

/-- The character a sender of the octet puts on the line: start bit low, even parity, stop bit high. -/
def LineChar.clean (o : Octet) : LineChar where
  start := steady false
  data := Vector.ofFn fun i => steady (o.getLsbD i.val)
  parity := steady ((List.range 8).foldr (fun i p => xor (o.getLsbD i) p) false)
  stop := steady true

end Sys2Proof

namespace Sys2Proof.Machine

/-! ### Loop commands (R141 to R143, Tables 10.7 and 10.12) -/

def LoopCommand.code : LoopCommand → Octet
  | .readSummary => 0x01
  | .readCells => 0x02
  | .setValve _ => 0x03
  | .writeConfig _ => 0x04
  | .attach _ => 0x05
  | .detach => 0x06
  | .standby => 0x07
  | .setPoint _ _ => 0x08
  | .readBoost => 0x09
  | .pumpOn => 0x0A
  | .pumpOff => 0x0B
  | .readWater => 0x0C

/-- The request data of a command (Table 10.12). -/
def LoopCommand.data : LoopCommand → List Octet
  | .setValve opening => [if opening then 1 else 0]
  | .writeConfig t => octetsOfHalf t
  | .attach s => [BitVec.ofNat 8 s.val]
  | .setPoint v i => octetsOfHalf v ++ octetsOfHalf i
  | _ => []

/-- The octets of data in a reply with status OK (Table 10.12). -/
def LoopCommand.replyLength : LoopCommand → Nat
  | .readSummary => 8
  | .readCells => 48
  | .standby => 4
  | .setPoint _ _ => 6
  | .readBoost => 8
  | .readWater => 5
  | _ => 0

/-- Whether the member takes the command (R141 to R143). -/
def LoopCommand.takenBy (c : LoopCommand) (m : MemberNo) : Bool :=
  match c with
  | .readSummary | .readCells | .setValve _ | .writeConfig _ => m.val < 8
  | .attach _ | .detach | .standby | .setPoint _ _ | .readBoost => m.val = 8
  | .pumpOn | .pumpOff | .readWater => m.val = 9

/-- The four read kinds Port P may ask for (R145, order 2). -/
def LoopCommand.isRead : LoopCommand → Bool
  | .readSummary | .readCells | .readBoost | .readWater => true
  | _ => false

def LoopCommand.isConfig : LoopCommand → Bool
  | .writeConfig _ => true
  | _ => false

/-- The command a code and data spell (R145, order 1): none where no member takes the code, the data has not
the command's length, or a parameter is outside its range. The range of a WRITE CONFIG threshold is that of
Table 9.2 (assumption 18). -/
def LoopCommand.ofOctets (code : Octet) (data : List Octet) : Option LoopCommand :=
  match code.toNat, data with
  | 0x01, [] => some .readSummary
  | 0x02, [] => some .readCells
  | 0x03, [v] => if v = 0 then some (.setValve false) else if v = 1 then some (.setValve true) else none
  | 0x04, [a, b] =>
    let t := (halfOf a b).toInt
    if 300 ≤ t ∧ t ≤ 600 then some (.writeConfig (halfOf a b)) else none
  | 0x05, [s] => if h : s.toNat < 8 then some (.attach ⟨s.toNat, h⟩) else none
  | 0x06, [] => some .detach
  | 0x07, [] => some .standby
  | 0x08, [a, b, c, d] => some (.setPoint (halfOf a b) (halfOf c d))
  | 0x09, [] => some .readBoost
  | 0x0A, [] => some .pumpOn
  | 0x0B, [] => some .pumpOff
  | 0x0C, [] => some .readWater
  | _, _ => none

/-- A request frame on the loop (Table 10.7), the check octet last. -/
def LoopCommand.frame (m : MemberNo) (c : LoopCommand) : List Octet :=
  let body := [BitVec.ofNat 8 m.val, c.code, BitVec.ofNat 8 c.data.length] ++ c.data
  body ++ [-octetSum body]

/-- How an attempt's reply reads (R135, R138). -/
inductive ReplyRead where
  | ok (data : List Octet)
  | hold
  | error (code : Octet)
  | spoiled
deriving DecidableEq, Repr

/-- A reply frame read against the request (R135, Table 10.7). A status the table does not give, and data that
is not of the length Table 10.12 gives, are taken as spoiled (assumption 17). -/
def readReply (m : MemberNo) (c : LoopCommand) (chars : List LineChar) : ReplyRead :=
  let octets := chars.map LineChar.octet
  if chars.any LineChar.spoiled then .spoiled
  else if octetSum octets ≠ 0 then .spoiled
  else match octets with
    | addr :: cmd :: status :: len :: rest =>
      if addr.toNat ≠ m.val ∨ cmd ≠ c.code ∨ rest.length ≠ len.toNat + 1 then .spoiled
      else
        let data := rest.dropLast
        if status = 0 then (if data.length = c.replyLength then .ok data else .spoiled)
        else if status = 1 then .hold
        else if status = 2 then (match data with | [e] => .error e | _ => .spoiled)
        else .spoiled
    | _ => .spoiled

/-! ### The demand poll (R155, R156, Tables 10.7 and 10.8) -/

def DemandKind.code : DemandKind → Octet
  | .levelLow => 0x01
  | .overTemp => 0x02
  | .valveFault => 0x03
  | .nodeRestart => 0x04
  | .boostFault => 0x05
  | .reservoirLow => 0x06
  | .flowLeak => 0x07

def DemandKind.ofCode (o : Octet) : Option DemandKind :=
  match o.toNat with
  | 1 => some .levelLow
  | 2 => some .overTemp
  | 3 => some .valveFault
  | 4 => some .nodeRestart
  | 5 => some .boostFault
  | 6 => some .reservoirLow
  | 7 => some .flowLeak
  | _ => none

/-- A demand word (Table 10.8). -/
def DemandWord.octets (w : DemandWord) : List Octet :=
  [BitVec.ofNat 8 w.member.val, w.kind.code] ++ octetsOfHalf w.value

/-- The DEMAND POLL frame sent, with an empty word part (Table 10.7). The octets of an empty word part after
its address are 00h, as those of an absent field. The confirmation kind is 00h when none is owed. -/
def pollFrame (owed : Option (MemberNo × DemandKind)) : List Octet :=
  let conf := match owed with
    | some (m, k) => [BitVec.ofNat 8 m.val, k.code]
    | none => [0xFF, 0]
  let body := [0xFF, 0x0F] ++ conf ++ [0xFF, 0, 0, 0]
  body ++ [-octetSum body]

/-- What the part puts on the loop for what is in flight: the request frame, sent again at each repeat and retry
(R138), the DEMAND POLL frame (R155), or the raw octets verbatim (R149). -/
def InFlight.frame : InFlight → List Octet
  | .transaction t => t.command.frame t.member
  | .poll confirmation => pollFrame confirmation
  | .raw octets => octets

/-- How a returned poll reads (R156). -/
inductive PollRead where
  | empty
  | word (w : DemandWord)
  | failed
deriving DecidableEq, Repr

/-- A returned DEMAND POLL frame (R156): failed when spoiled by the checks of the loop receiver, or when its
word names an address above 9 or a kind not in Table 9.3. -/
def readPoll (chars : List LineChar) : PollRead :=
  let octets := chars.map LineChar.octet
  if chars.any LineChar.spoiled then .failed
  else if octetSum octets ≠ 0 then .failed
  else match octets with
    | [addr, cmd, _, _, a, k, v1, v2, _] =>
      if addr ≠ 0xFF ∨ cmd ≠ 0x0F then .failed
      else if a = 0xFF then .empty
      else if h : a.toNat < 10 then
        match DemandKind.ofCode k with
        | some kind => .word { member := ⟨a.toNat, h⟩, kind := kind, value := halfOf v1 v2 }
        | none => .failed
      else .failed
    | _ => .failed

/-! ### Request frames (Tables 10.3, 10.5, 10.10) -/

end Sys2Proof.Machine

namespace Sys2Proof

open Machine

def Request.code : Request → Octet
  | .plantStatus _ _ _ _ => 0x01
  | .holdMaintenance => 0x02
  | .releaseHold => 0x03
  | .openWindow _ _ => 0x04
  | .closeWindow => 0x05
  | .readForecast => 0x06
  | .readString _ => 0x07
  | .readRounds _ => 0x08
  | .readNotices => 0x09
  | .ackNotices _ => 0x0A
  | .setNoticeEnables _ => 0x0B
  | .loopTransaction _ _ _ => 0x0C
  | .loopResult => 0x0D
  | .requestRound _ _ _ _ _ _ => 0x0E
  | .cancelRound _ _ => 0x0F
  | .barString _ => 0x10
  | .unbarString _ => 0x11
  | .clearChannel _ => 0x12
  | .takeLoop => 0x13
  | .giveLoop => 0x14
  | .loopRaw _ => 0x15
  | .readDemands => 0x16
  | .clearOverflow => 0x17
  | .readLogRecord _ _ => 0x18
  | .releaseSegment _ => 0x19
  | .writeSetting _ _ _ => 0x1A
  | .readSetting _ _ => 0x1B
  | .storeSettings => 0x1C
  | .setClock _ => 0x1D
  | .restart => 0x1E

/-- The parameters of a request, in the order of Table 10.10. -/
def Request.params : Request → List Octet
  | .plantStatus s v l h => [s] ++ octetsOfQuad v ++ octetsOfQuad l ++ octetsOfQuad h
  | .openWindow b m => octetsOfHalf b ++ octetsOfHalf m
  | .readString s | .barString s | .unbarString s => [s]
  | .readRounds x => [x]
  | .ackNotices m | .setNoticeEnables m => octetsOfHalf m
  | .loopTransaction m c d => [m, c, BitVec.ofNat 8 d.length] ++ d
  | .requestRound k s u p r d => [k, s, u, p, r] ++ octetsOfHalf d
  | .cancelRound k s => [k, s]
  | .clearChannel c => [c]
  | .loopRaw o => o
  | .readLogRecord s i => [s, i]
  | .releaseSegment s => [s]
  | .writeSetting i x v => [i, x] ++ v
  | .readSetting i x => [i, x]
  | .setClock q => octetsOfQuad q
  | _ => []

/-- The request of a known code whose parameters have the length it defines (R165, step 2; Table 10.10). The
value length of WRITE SETTING is judged with its identifier (Machine/Store.lean). -/
def Request.ofParams (code : Octet) (params : List Octet) : Option Request :=
  match code.toNat, params with
  | 0x01, [s, a, b, c, d, e, f, g, h, i, j, k, l] =>
    some (.plantStatus s (quadOf a b c d) (quadOf e f g h) (quadOf i j k l))
  | 0x02, [] => some .holdMaintenance
  | 0x03, [] => some .releaseHold
  | 0x04, [a, b, c, d] => some (.openWindow (halfOf a b) (halfOf c d))
  | 0x05, [] => some .closeWindow
  | 0x06, [] => some .readForecast
  | 0x07, [s] => some (.readString s)
  | 0x08, [x] => some (.readRounds x)
  | 0x09, [] => some .readNotices
  | 0x0A, [a, b] => some (.ackNotices (halfOf a b))
  | 0x0B, [a, b] => some (.setNoticeEnables (halfOf a b))
  | 0x0C, m :: c :: n :: d => if d.length = n.toNat then some (.loopTransaction m c d) else none
  | 0x0D, [] => some .loopResult
  | 0x0E, [k, s, u, p, r, a, b] => some (.requestRound k s u p r (halfOf a b))
  | 0x0F, [k, s] => some (.cancelRound k s)
  | 0x10, [s] => some (.barString s)
  | 0x11, [s] => some (.unbarString s)
  | 0x12, [c] => some (.clearChannel c)
  | 0x13, [] => some .takeLoop
  | 0x14, [] => some .giveLoop
  | 0x15, o => some (.loopRaw o)
  | 0x16, [] => some .readDemands
  | 0x17, [] => some .clearOverflow
  | 0x18, [s, i] => some (.readLogRecord s i)
  | 0x19, [s] => some (.releaseSegment s)
  | 0x1A, i :: x :: v => some (.writeSetting i x v)
  | 0x1B, [i, x] => some (.readSetting i x)
  | 0x1C, [] => some .storeSettings
  | 0x1D, [a, b, c, d] => some (.setClock (quadOf a b c d))
  | 0x1E, [] => some .restart
  | _, _ => none

/-- The shape of a request beyond its length (R165, step 2; the text before Table 10.10): masks with no bit
above 11, a selector of R167, and kind, urgency, channel and presence octets that the table gives. -/
def Request.wellShaped : Request → Bool
  | .readRounds x => x.toNat ≤ 5
  | .ackNotices m | .setNoticeEnables m => m.toNat < 4096
  | .requestRound k _ u p _ _ => k.toNat ≤ 1 && u.toNat ≤ 1 && p.toNat ≤ 3
  | .cancelRound k _ => k.toNat ≤ 1
  | .clearChannel c => c.toNat ≤ 1
  | .loopRaw o => 1 ≤ o.length && o.length ≤ Config.rawTop
  | _ => true

/-- A master request frame (Table 10.5). -/
def Request.frame (tag : Octet) (r : Request) : List Octet :=
  let body := [r.code, tag] ++ r.params
  let counted := BitVec.ofNat 8 body.length :: body
  0xA5 :: counted ++ [-octetSum counted]

end Sys2Proof

namespace Sys2Proof.Machine

/-- The request codes of Table 10.3. -/
def knownCode (code : Octet) : Bool :=
  1 ≤ code.toNat && code.toNat ≤ 0x1E

/-- The permissions of Table 10.3. -/
def permitted (p : Port) (code : Octet) : Bool :=
  let n := code.toNat
  match p with
  | .plant => (1 ≤ n && n ≤ 3) || (7 ≤ n && n ≤ 0x0D)
  | .energy => (4 ≤ n && n ≤ 6) || (7 ≤ n && n ≤ 0x0B)
  | .service => 7 ≤ n && n ≤ 0x1E

/-! ### Reply frames (Tables 10.2, 10.6, 10.13) -/

def Status.code : Status → Octet
  | .done => 0x00
  | .doneClamped => 0x01
  | .accepted => 0x02
  | .merged => 0x03
  | .notPermitted => 0x81
  | .busy => 0x82
  | .range => 0x83
  | .full => 0x84
  | .locked => 0x85
  | .notFound => 0x86
  | .barred => 0x87
  | .absent => 0x88
  | .running => 0x89
  | .notPresent => 0x8A

/-- Results follow DONE, DONE-CLAMPED, ACCEPTED and MERGED; a REFUSED reply carries none (R166). -/
def Status.refused (s : Status) : Bool :=
  s.code.getLsbD 7

/-- A master reply frame (Table 10.6). -/
def Reply.frame (r : Reply) : List Octet :=
  let body := [r.code, r.tag, r.status.code] ++ (if r.status.refused then [] else r.results)
  let counted := BitVec.ofNat 8 body.length :: body
  0xA5 :: counted ++ [-octetSum counted]

/-- One octet: a number, a place or a count (Table 10.13). -/
def enc1 (n : Nat) : List Octet := [BitVec.ofNat 8 n]

/-- Yes or no, and its like (Table 10.13). -/
def encFlag (b : Bool) : List Octet := [if b then 1 else 0]

/-- A two-octet quantity, unsigned and signed. -/
def enc2 (n : Nat) : List Octet := octetsOfHalf (BitVec.ofNat 16 n)
def enc2i (n : Int) : List Octet := octetsOfHalf (BitVec.ofInt 16 n)

/-- A four-octet quantity, unsigned and signed. -/
def enc4 (n : Nat) : List Octet := octetsOfQuad (BitVec.ofNat 32 n)
def enc4i (n : Int) : List Octet := octetsOfQuad (BitVec.ofInt 32 n)

/-- A list of items: its count, then the items. -/
def encList (items : List (List Octet)) : List Octet :=
  enc1 items.length ++ items.flatten

/-- A set of named values: bit n for the value at place n of the owner's list (two octets). -/
def encSet (bits : List Bool) : List Octet :=
  enc2 (bits.foldr (fun b n => (if b then 1 else 0) + 2 * n) 0)

/-- One result field: always there, or one that may be absent with the octets it takes when absent. -/
inductive Field where
  | always (octets : List Octet)
  | optional (value : Option (List Octet)) (width : Nat)
deriving DecidableEq, Repr

/-- An optional field's presence bit. -/
def Field.presence : Field → List Bool
  | .always _ => []
  | .optional v _ => [v.isSome]

/-- A field's octets; those of an absent field are 00h (10.5). -/
def Field.octets : Field → List Octet
  | .always o => o
  | .optional (some o) _ => o
  | .optional none w => List.replicate w 0

/-- Presence bits packed from bit 0 of the first octet. -/
def packBits : List Bool → List Octet
  | a :: b :: c :: d :: e :: f :: g :: h :: i :: rest =>
    BitVec.ofNat 8 ([a, b, c, d, e, f, g, h].foldr (fun x n => (if x then 1 else 0) + 2 * n) 0)
      :: packBits (i :: rest)
  | [] => []
  | l => [BitVec.ofNat 8 (l.foldr (fun x n => (if x then 1 else 0) + 2 * n) 0)]

/-- The results of a reply (the text before Table 10.13): presence octets where any field may be absent, then
the fields in order. -/
def results (fields : List Field) : List Octet :=
  packBits (fields.flatMap Field.presence) ++ fields.flatMap Field.octets

end Sys2Proof.Machine
end

