-- ==== Sys2Proof/Machine/Equalise.lean ====
section
/-! DEFINITION. The Equalise Channel (chapter 4): the round from its claim to its end, the accounting periods,
pause and resume, and what each of the channel's own transactions does when it ends. -/

namespace Sys2Proof.Machine

/-! ### The round context -/

def setRound (r : Round) (s : State) : State :=
  modEqc (fun e => { e with round := some r }) s

/-- Change the round context, if there is one. -/
def modRound (f : Round → Round) (s : State) : State :=
  modEqc (fun e => { e with round := e.round.map f }) s

def setEqcState (st : EqcState) (s : State) : State :=
  modEqc (fun e => { e with state := st }) s

def setAttachment (l : LinkRecord) (s : State) : State :=
  modEqc (fun e => { e with attachment := l }) s

/-- The round context, while its outcome is not decided and the channel is in a state in which it can be
(R74: CONNECT, RAISE, HOLD or PAUSED). -/
def openRound (s : State) : Option Round :=
  match s.eqc.state, s.eqc.round with
  | .connect, some r | .raise, some r | .hold, some r | .paused, some r =>
    if r.outcome.isNone then some r else none
  | _, _ => none

/-- The round context of a decided round. -/
def decidedRound (s : State) : Option (Round × EqOutcome) :=
  match s.eqc.round with
  | some r => r.outcome.map fun o => (r, o)
  | none => none

/-- The period timer started at 0 with the T in force (R67, R71). -/
def startedTimer (s : State) : PeriodTimer where
  count := 0
  length := s.settings.period
  running := true

def PeriodTimer.stopped : PeriodTimer where
  count := 0
  length := 0
  running := false

/-- A stopped timer keeps the length the period ran with, for its integration (R67, R87). -/
def PeriodTimer.stop (t : PeriodTimer) : PeriodTimer := { t with running := false }

def stopTimer (s : State) : State :=
  modRound (fun r => { r with timer := r.timer.stop }) s

/-! ### Pause sets -/

def PauseSet.isEmpty (p : PauseSet) : Bool :=
  !(p.windowClosed || p.stale || p.held || p.lowEnergy || p.loopRelease)

def PauseSet.put (c : PauseCause) (b : Bool) (p : PauseSet) : PauseSet :=
  match c with
  | .windowClosed => { p with windowClosed := b }
  | .stale => { p with stale := b }
  | .held => { p with held := b }
  | .lowEnergy => { p with lowEnergy := b }
  | .loopRelease => { p with loopRelease := b }

/-- The site conditions that stand at the claim and are pause causes (R63). -/
def siteCauses (s : State) : PauseSet where
  windowClosed := !s.plant.windowOpen
  stale := s.plant.stale
  held := s.plant.hold
  lowEnergy := false
  loopRelease := s.loop.release = .pending

/-! ### Round end (R77, R78) -/

/-- Entry to FAULT, with CHANNEL FAULT in every port (R78). -/
def enterEqcFault (s : State) : State :=
  raise .channelFault (setEqcState .fault s)

/-- Saturated to the two octets of a record field (Table 11.2). -/
def sat16 (n : Nat) : Nat := min n 65535
def sat16i (x : Int) : Int := clampTo (-32768) 32767 x

/-- The record of a finished equalise round (R77 item 4, Table 11.2). -/
def equaliseRecord (r : Round) (o : EqOutcome) (s : State) : LogRecord where
  sequence := 0
  kind := .equalise
  entryKind := none
  number := some r.number
  string := some r.string
  origin := some r.origin
  outcome := some o.name
  cause := o.cause
  start := r.start
  duration := durationOf r.ticks
  charge := sat16i (chargeReported r.acct)
  overcharge := sat16 (overchargeReported r.acct)
  energy := sat16 (energyReported r.acct)
  peak := r.acct.peak.getD 0
  spread := (recordOf s r.string).spread
  dose := r.acct.dose.getD 0
  belowMinimum := match r.acct.dose with | some d => decide (d < s.settings.dmin) | none => false
  delivered := 0
  summary := summaryOf s

/-- The follow-on WATER post of a dose (R77 item 3, R101). -/
def followOn (i : StringNo) (dose : Nat) : QueueEntry where
  work := .water dose
  string := i
  urgency := .normal
  origin := .followOn

/-- The dose of a completed round, written to its accounting state, and its post where it posts; the result of the
post is kept nowhere (R77 item 3, R100, R101). -/
def handDose (r : Round) (o : EqOutcome) (s : State) : State × Round :=
  if o.completes then
    let d := computedDose s r
    (if dosePosts s d then (post (followOn r.string d) s).1 else s, { r with acct := { r.acct with dose := some d } })
  else (s, { r with acct := { r.acct with dose := none } })

/-- The steps of R77 for a decided round: `mark` marks the release DETACH FAILED, `toFault` takes the channel
to FAULT. The string of a FINISHED or TIMED round whose fault-at-end mark is set leaves by R10, to SETTLE where its settle
time is above 0, by the model's choice: R79 has it go to FLOAT (assumption 47). -/
def handOnRound (r : Round) (o : EqOutcome) (mark toFault : Bool) (s : State) : State :=
  let s := takeEqualiseOutcome r.string o s
  let s := releaseString r.string (if mark then some .detachFailed else none)
    (if o.completes then some r.recipe.settleTime else none) s
  let (s, r) := handDose r o s
  let s := raise .roundEnded (logWrite (equaliseRecord r o s) s)
  let s := modEqc (fun e => { e with round := none, state := .idle }) s
  if toFault then enterEqcFault s else s

/-- The end of a round (R77). -/
def endRound (mark toFault : Bool) (s : State) : State :=
  match decidedRound s with
  | some (r, o) => handOnRound r o mark toFault s
  | none => s

/-! ### Deciding the outcome (R74, R75) -/

/-- Entry to DETACH: the claim for DETACH is placed (R76), in the place of any other the channel holds (R75). Remembered
phase and pause elapsed go with PAUSED; the pause set stays as it stood, by the model's choice (assumption 42). -/
def enterDetach (s : State) : State :=
  claimEqualise .detach
    (setEqcState .detach (modRound (fun r => { r with pause := none, timer := r.timer.stop }) s))

/-- Where a decided round stands, and what the channel does there (R75). The model's choice for a pause STANDBY that is
claimed and not yet in flight (assumption 36): R75's row has an outstanding pause STANDBY run to its end, so the claim
is kept and granted before DETACH, where the rule's last sentence withdraws a pending claim. The pause set of a decided
round stays as it stood at the decision, in a released loop too, by the model's choice (assumption 42). -/
def stopDriving (s : State) : State :=
  match s.eqc.state with
  | .connect =>
    if (equaliseInFlight s).isSome then s
    else match s.loop.claimEqualise, s.eqc.round with
      | some (.attach _), some r =>
        if r.faultAtEnd then enterDetach s else endRound false false (withdrawEqualise s)
      | _, _ => enterDetach s
  | .raise | .hold =>
    if (equaliseInFlight s).isSome || s.loop.claimEqualise = some .pauseStandby then stopTimer s
    else enterDetach s
  | .paused =>
    match s.loop.release with
    | .released _ => withdrawEqualise (stopTimer s)
    | _ => if (equaliseInFlight s).isSome then stopTimer s else enterDetach s
  | _ => s

/-- The first event of Table 4.6 decides the outcome; a later one changes nothing (R74). -/
def decideEqualise (o : EqOutcome) (s : State) : State :=
  match openRound s with
  | some r => stopDriving (setRound { r with outcome := some o } s)
  | none => s

/-- A BOOST FAULT, or a NODE RESTART of the Boost Unit (R79). -/
def boostDistrusted (c : Cause) (s : State) : State :=
  match s.eqc.state with
  | .idle => claimEqualise .faultDetach (enterEqcFault s)
  | .fault => s
  | _ => decideEqualise (.aborted c) (modRound (fun r => { r with faultAtEnd := true }) s)

/-! ### Pause and resume (R70 to R72) -/

/-- The resume (R72): on a permitted current below Imin LOW ENERGY is added instead. The setpoint that stage 4 computed
there is not held, by the model's choice (assumption 49). -/
def resumeRound (r : Round) (s : State) : State :=
  let sp := setpointAt s r (resumeVoltage s r)
  if sp.low r.recipe then
    setRound { r with
      pauses := r.pauses.put .lowEnergy true
      timer := startedTimer s
      acct := { r.acct with held := none } } s
  else
    let hold := match r.acct.lastFresh with
      | some rd => decide (sp.target ≤ rd.vs + 24 * r.recipe.approachBand)
      | none => false
    setEqcState (if hold then .hold else .raise)
      (setRound { r with
        pause := none
        timer := startedTimer s
        acct := firstWindow { r.acct with held := some sp } } s)

/-- A PAUSED round with an empty set resumes (R72). -/
def resumeIfClear (s : State) : State :=
  match s.eqc.state, openRound s with
  | .paused, some r => if r.pauses.isEmpty then resumeRound r s else s
  | _, _ => s

/-- Entry to PAUSED from CONNECT, RAISE or HOLD, with ROUND PAUSED (R65, R70, R83): the refresh timer runs where
LOW ENERGY is in the set (R71), the setpoint held is discarded (R93), and an empty set resumes at once. -/
def enterPaused (ph : Phase) (s : State) : State :=
  let s := modRound (fun r => { r with
    pause := some { phase := ph, elapsed := 0, expired := false }
    timer := if r.pauses.lowEnergy then startedTimer s else r.timer.stop
    acct := { r.acct with held := none } }) s
  resumeIfClear (raise .roundPaused (setEqcState .paused s))

/-- The claim for the pause STANDBY; the setpoint held is discarded (R70, R93). -/
def placePauseStandby (s : State) : State :=
  claimEqualise .pauseStandby
    (modRound (fun r => { r with pauseOwed := false, acct := { r.acct with held := none } }) s)

/-- The pause taken at the first cause in RAISE or HOLD (R70). A SET POINT in flight runs to its end, and the STANDBY is
owed until then; a pause STANDBY that is already outstanding serves. -/
def takePause (s : State) : State :=
  let s := stopTimer s
  match equaliseInFlight s with
  | some .pauseStandby => s
  | some _ => modRound (fun r => { r with pauseOwed := true }) s
  | none => if s.loop.claimEqualise = some .pauseStandby then s else placePauseStandby s

/-- A pause cause arises (R70). -/
def addPause (c : PauseCause) (s : State) : State :=
  match openRound s with
  | none => s
  | some r =>
    let s1 := setRound { r with pauses := r.pauses.put c true } s
    match s.eqc.state with
    | .raise | .hold => if r.pauses.isEmpty then takePause s1 else s1
    | _ => s1

/-- A pause cause ends (R70); the removal of the last one resumes a PAUSED round (R72). -/
def removePause (c : PauseCause) (s : State) : State :=
  match openRound s with
  | none => s
  | some r => resumeIfClear (setRound { r with pauses := r.pauses.put c false } s)

/-! ### Starting a round (R60, R63) -/

/-- The round context at its creation (R60, R61, R85). -/
def freshRound (e : QueueEntry) (rn : Fin 4) (n : Half) (s : State) : Round where
  number := n
  string := e.string
  recipeNo := rn
  recipe := s.settings.recipes[rn]
  origin := e.origin
  start := s.clock
  ticks := 0
  pauses := siteCauses s
  pauseOwed := false
  pause := none
  timer := PeriodTimer.stopped
  raiseElapsed := 0
  holdElapsed := 0
  failures := 0
  outcome := none
  faultAtEnd := false
  acct := Accounting.fresh

/-- The claim taken (R7, R56, R63): the entry leaves the queue, the string is EQUALISE, the number is drawn. A
DISCHARGE that stands ends the round at once. -/
def beginRound (e : QueueEntry) (rn : Fin 4) (s : State) : State :=
  let s := setStringState e.string (.equalise none) (dropEntry .equalise e.string s)
  let (s, n) := drawNumber s
  let s := setEqcState .connect (setRound (freshRound e rn n s) s)
  if s.plant.discharge then
    endRound false false (modRound (fun r => { r with outcome := some (.aborted .discharge) }) s)
  else claimEqualise (.attach e.string) s

/-! ### The accounting period (R67 to R69) -/

/-- After the period's transaction (R67 item 5): the timer restarts where nothing stands against it; a pause that
waited for the SET POINT places its STANDBY (R70). The model's choice for a pause whose last cause is removed before
that SET POINT has ended (assumption 21): it was taken at its first cause (R70, R125, R127), so its STANDBY is claimed
all the same, and the round enters PAUSED and resumes at once. -/
def nextPeriod (s : State) : State :=
  match s.eqc.state, openRound s with
  | .raise, some r | .hold, some r =>
    if r.pauses.isEmpty && !r.pauseOwed then setRound { r with timer := startedTimer s } s
    else placePauseStandby s
  | _, _ => s

/-- The phase in which a period runs. -/
def phaseOf (st : EqcState) : Phase :=
  match st with
  | .hold => .hold
  | _ => .raise

/-- The period expires (R67 items 1 to 3). -/
def periodExpires (r : Round) (s : State) : State :=
  let r := { r with timer := r.timer.stop }
  let r := match s.eqc.state with
    | .hold => { r with holdElapsed := satAdd Config.secondsTop r.holdElapsed r.timer.length }
    | _ => { r with raiseElapsed := satAdd Config.secondsTop r.raiseElapsed r.timer.length }
  match r.acct.held with
  | some sp => claimEqualise (.setPoint sp) (setRound r s)
  | none => setRound r s

/-- The verdict of an answered period, acted on (R68). -/
def actOnVerdict (v : Verdict) (s : State) : State :=
  match v with
  | .continue => nextPeriod s
  | .enterHold =>
    nextPeriod (setEqcState .hold (modRound (fun r => { r with acct := firstWindow r.acct }) s))
  | .lowEnergy => nextPeriod (modRound (fun r => { r with pauses := r.pauses.put .lowEnergy true }) s)
  | .decided o => decideEqualise o s

/-- A period's SET POINT that answered (R68, R94). -/
def setPointAnswered (rd : Reading) (s : State) : State :=
  match s.eqc.round with
  | none => s
  | some r =>
    let r := { r with failures := 0 }
    if r.outcome.isSome then
      enterDetach (setRound { r with acct := integrateOnly s r (phaseOf s.eqc.state) rd } s)
    else
      let (a, v) := answeredPeriod s r (phaseOf s.eqc.state) rd
      actOnVerdict v (setRound { r with acct := a } s)

/-- A period's SET POINT that failed: a held period, or BOOST LOST at the third (R69, R95). -/
def setPointFailed (s : State) : State :=
  match s.eqc.round with
  | none => s
  | some r =>
    let r := { r with failures := r.failures + 1 }
    let held := if r.failures < 3 then { r with acct := heldPeriod s r (phaseOf s.eqc.state) } else r
    if r.outcome.isSome then enterDetach (setRound held s)
    else if r.failures < 3 then nextPeriod (setRound held s)
    else decideEqualise (.aborted .boostLost) (setRound held s)

/-! ### The channel's own transactions -/

/-- Vs and Is as the Boost Unit's replies to STANDBY and SET POINT open (Table 10.12). -/
def readingOf (data : List Octet) : Reading where
  vs := (halfAt data 0).toNat
  is := (halfAt data 2).toInt

/-- The cause a failed ATTACH gives (R64). -/
def attachFailure (o : TxOutcome) : Cause :=
  match o with
  | .noAnswer | .lineFault => .boostLost
  | _ => .noAttach

def decideOnly (o : EqOutcome) (r : Round) : Round :=
  { r with outcome := some (r.outcome.getD o) }

/-- ATTACH of CONNECT ended (R64). -/
def attachEnded (i : StringNo) (o : TxOutcome) (s : State) : State :=
  match o, s.eqc.round with
  | _, none => s
  | .answer _, some r =>
    let s := setAttachment (.names i true) s
    if r.outcome.isSome then enterDetach s else claimEqualise .connectStandby s
  | o, some r =>
    let s := setRound (decideOnly (.aborted (attachFailure o)) r) s
    if r.faultAtEnd then enterDetach s else endRound false false s

/-- STANDBY of CONNECT ended (R65). A round that enters PAUSED for LOW ENERGY alone remembers RAISE, by the model's
choice: R65 gives that phase only where a pause cause stands (assumption 48). -/
def connectStandbyEnded (o : TxOutcome) (s : State) : State :=
  match openRound s with
  | none => if s.eqc.round.isSome then enterDetach s else s
  | some r =>
    match o with
    | .answer _ =>
      if r.pauses.isEmpty then
        let sp := setpointAt s r (recordOf s r.string).voltage
        if sp.low r.recipe then
          enterPaused .raise (setRound { r with pauses := r.pauses.put .lowEnergy true } s)
        else
          setEqcState .raise
            (setRound { r with timer := startedTimer s, acct := { r.acct with held := some sp } } s)
      else enterPaused .raise s
    | _ => decideEqualise (.aborted .boostLost) s

/-- A pause STANDBY ended (R70, R75). -/
def pauseStandbyEnded (o : TxOutcome) (s : State) : State :=
  match openRound s with
  | none => if s.eqc.round.isSome then enterDetach s else s
  | some _ =>
    match o with
    | .answer _ => enterPaused (phaseOf s.eqc.state) s
    | _ => placePauseStandby s

/-- A standby refresh ended (R71). One that ends after the outcome was decided is followed by DETACH (R75), and by the
model's choice it changes neither the failure count nor the last refresh reading (assumption 52). -/
def refreshEnded (o : TxOutcome) (s : State) : State :=
  match openRound s with
  | none => if s.eqc.round.isSome then enterDetach s else s
  | some r =>
    match o with
    | .answer data =>
      let rd := readingOf data
      let r := { r with failures := 0, acct := { r.acct with lastRefresh := some rd } }
      if (setpointAt s r rd.vs).low r.recipe then setRound { r with timer := startedTimer s } s
      else removePause .lowEnergy (setRound r s)
    | _ =>
      let r := { r with failures := r.failures + 1 }
      if r.failures < 3 then setRound { r with timer := startedTimer s } s
      else decideEqualise (.aborted .boostLost) (setRound r s)

/-- The channel's DETACH, or the safe-state sequence's on its behalf, ended (R76). -/
def detachEnded (o : TxOutcome) (s : State) : State :=
  match s.eqc.round with
  | none => s
  | some r =>
    match o with
    | .answer _ => endRound false r.faultAtEnd (setAttachment .empty s)
    | _ =>
      match s.eqc.attachment with
      | .names i _ => endRound true true (setAttachment (.names i false) s)
      | .empty => endRound false true s

/-- The DETACH of a fault in IDLE ended: the channel stays in FAULT (R79, R62). -/
def faultDetachEnded (o : TxOutcome) (s : State) : State :=
  match o with
  | .answer _ => setAttachment .empty s
  | _ => setAttachment s.eqc.attachment.unconfirm s

end Sys2Proof.Machine
end

