-- ==== Sys2Proof/Machine/Water.lean ====
section
/-! DEFINITION. The Water Channel (chapter 6): the dose from its claim to its end, the end sequence, the
reservoir, and what each of the channel's own transactions does when it ends. -/

namespace Sys2Proof.Machine

/-! ### The dose context and the records -/

def modDose (f : Dose → Dose) (s : State) : State :=
  modWac (fun w => { w with dose := w.dose.map f }) s

def setDose (d : Dose) (s : State) : State :=
  modWac (fun w => { w with dose := some d }) s

def setWacState (st : WacState) (s : State) : State :=
  modWac (fun w => { w with state := st }) s

def setValve (l : LinkRecord) (s : State) : State :=
  modWac (fun w => { w with valve := l }) s

def setPump (p : PumpRecord) (s : State) : State :=
  modWac (fun w => { w with pump := p }) s

/-- The dose context, while its outcome is not decided and the channel is in a state in which it can be
(R110: OPEN, PUMP or DOSE). -/
def openDose (s : State) : Option Dose :=
  match s.wac.state, s.wac.dose with
  | .open, some d | .pump, some d | .dose, some d => if d.outcome.isNone then some d else none
  | _, _ => none

/-- The dose context of a decided round. -/
def decidedDose (s : State) : Option (Dose × WaterOutcome) :=
  match s.wac.dose with
  | some d => d.outcome.map fun o => (d, o)
  | none => none

/-! ### IDLE and FAULT (R104, R117) -/

/-- Entry to IDLE: the reservoir poll timer starts at 0 while the flag is set (R104). -/
def enterWacIdle (s : State) : State :=
  modWac (fun w => { w with
    state := .idle
    pollTimer := if w.reservoirLow then some 0 else none }) s

/-- Entry to FAULT, with CHANNEL FAULT in every port; no reservoir poll runs, and a pending check or poll claim
is withdrawn (R115, R117). -/
def enterWacFault (s : State) : State :=
  let s := modWac (fun w => { w with state := .fault, pollTimer := none }) s
  let s := match s.loop.claimWater with
    | some .check => withdrawWater (modWac (fun w => { w with check := none }) s)
    | some .reservoirPoll => withdrawWater s
    | _ => s
  raise .channelFault s

/-! ### The reservoir (R104) -/

/-- The reservoir-low flag is set, in FAULT too (assumption 34); newly set in IDLE, it starts the poll timer at 0. -/
def setReservoirLow (s : State) : State :=
  modWac (fun w =>
    if w.reservoirLow then w
    else { w with
      reservoirLow := true
      pollTimer := if w.state = .idle then some 0 else w.pollTimer }) s

/-- An answered READ WATER of the channel: the last reading, and the clearing of the flag at or above the
reserve plus 10. -/
def judgeReservoir (reading : Nat) (s : State) : State :=
  modWac (fun w =>
    let w := { w with reservoir := some reading }
    if w.reservoirLow ∧ s.settings.reserve + 10 ≤ reading then
      { w with reservoirLow := false, pollTimer := none }
    else w) s

/-- The fields of a READ WATER reply (Table 10.12). -/
def reservoirOf (data : List Octet) : Nat := (halfAt data 0).toNat
def deliveredOf (data : List Octet) : Nat := (halfAt data 2).toNat
def flowOf (data : List Octet) : Bool := flagAt data 4

/-! ### Round end (R114) -/

/-- The record of a finished watering round (R114 item 3, Table 11.2). -/
def waterRecord (d : Dose) (o : WaterOutcome) (s : State) : LogRecord where
  sequence := 0
  kind := .water
  entryKind := none
  number := some d.number
  string := some d.string
  origin := some d.origin
  outcome := some o.name
  cause := o.cause
  start := d.start
  duration := durationOf d.ticks
  charge := 0
  overcharge := 0
  energy := 0
  peak := 0
  spread := (recordOf s d.string).spread
  dose := d.limit
  belowMinimum := false
  delivered := d.delivered
  summary := summaryOf s

/-- How the string leaves the round (R114 item 2): released, released marked CLOSE FAILED, or kept. -/
inductive Leave where
  | released | closeFailed | kept
deriving DecidableEq, Repr

/-- The steps of R114 for a decided round. -/
def handOnDose (d : Dose) (o : WaterOutcome) (leave : Leave) (toFault : Bool) (s : State) : State :=
  let s := takeWaterOutcome d.string o d.delivered s
  let s := match leave with
    | .released => releaseString d.string none none s
    | .closeFailed => releaseString d.string (some .closeFailed) none s
    | .kept => s
  let s := raise .roundEnded (logWrite (waterRecord d o s) s)
  let s := modWac (fun w => { w with dose := none }) s
  if toFault then enterWacFault s else enterWacIdle s

/-- The end of a watering round (R114). -/
def endDose (leave : Leave) (toFault : Bool) (s : State) : State :=
  match decidedDose s with
  | some (d, o) => handOnDose d o leave toFault s
  | none => s

/-! ### The end sequence (R111) -/

/-- Step 2: CLOSE when the valve record names the string; else the round ends. -/
def closeStep (d : Dose) (s : State) : State :=
  if s.wac.valve.holds d.string then claimWater (.closeValve d.string) (setWacState .close s)
  else endDose .released d.faultAtEnd s

/-- The end sequence: STOP when pump on was sent or the mark is set, then CLOSE. It takes the place of any claim
the channel still holds. -/
def endSequence (s : State) : State :=
  match s.wac.dose with
  | none => s
  | some d =>
    let s := withdrawWater (setDose { d with pollTimer := none, maxReached := false } s)
    if d.pumpOnSent || d.faultAtEnd then claimWater .pumpOff (setWacState .stop s)
    else closeStep d s

/-- Where a decided round stands (R111, the table): a transaction in flight runs to its end first. -/
def stopDosing (s : State) : State :=
  if (waterInFlight s).isSome then modDose (fun d => { d with pollTimer := none, maxReached := false }) s
  else endSequence s

/-- The first event of Table 6.5 decides the outcome; a later one changes nothing (R110). -/
def decideWater (o : WaterOutcome) (s : State) : State :=
  match openDose s with
  | some d => stopDosing (setDose { d with outcome := some o } s)
  | none => s

/-- A FLOW LEAK (R115). -/
def flowLeak (s : State) : State :=
  match s.wac.state with
  | .idle => claimWater .faultPumpOff (enterWacFault s)
  | .fault => s
  | _ => decideWater (.aborted .flowLeak) (modDose (fun d => { d with faultAtEnd := true }) s)

/-! ### Starting a dose (R102) -/

/-- The dose context at its creation. -/
def freshDose (e : QueueEntry) (limit : Nat) (n : Half) (s : State) : Dose where
  number := n
  string := e.string
  limit := limit
  origin := e.origin
  start := s.clock
  ticks := 0
  delivered := 0
  lastChange := none
  elapsed := none
  pumpOnSent := false
  flowActive := none
  outcome := none
  faultAtEnd := false
  pollTimer := none
  maxReached := false

/-- The claim taken (R7, R56, R102). A DISCHARGE or HELD that stands ends the round at once. -/
def beginDose (e : QueueEntry) (limit : Nat) (s : State) : State :=
  let s := setStringState e.string (.water none) (dropEntry .water e.string s)
  let (s, n) := drawNumber s
  let s := modWac (fun w => { w with state := .open, pollTimer := none, check := none })
    (setDose (freshDose e limit n s) s)
  if s.plant.discharge || s.plant.hold then
    endDose .released false (modDose (fun d => { d with outcome := some .stopped }) s)
  else claimWater (.openValve e.string) s

/-! ### The channel's own transactions -/

/-- The cause a failed SET VALVE open gives (R106). -/
def openFailure (o : TxOutcome) : Cause :=
  match o with
  | .fault _ => .valveFault
  | _ => .nodeLost

/-- SET VALVE open ended (R106). -/
def openValveEnded (i : StringNo) (o : TxOutcome) (s : State) : State :=
  match o, s.wac.dose with
  | _, none => s
  | .answer _, some d =>
    let s := setValve (.names i true) s
    if d.outcome.isSome then endSequence s else claimWater .pumpOn (setWacState .pump s)
  | o, some d =>
    endSequence (setDose { d with outcome := some (d.outcome.getD (.aborted (openFailure o))) } s)

/-- PUMP ON ended (R107). -/
def pumpOnEnded (o : TxOutcome) (s : State) : State :=
  match o, s.wac.dose with
  | _, none => s
  | .answer _, some d =>
    let s := setPump .onConfirmed s
    if d.outcome.isSome then endSequence s
    else
      setWacState .dose (setDose { d with
        elapsed := some 0, lastChange := some 0, delivered := 0, pollTimer := some 0 } s)
  | _, some d => endSequence (setDose { d with outcome := some (d.outcome.getD (.aborted .pumpLost)) } s)

/-- R108 steps 1 and 2: the flow-active flag, and delivered with its last change time. -/
def takeDelivered (data : List Octet) (d : Dose) : Dose :=
  let d := { d with flowActive := some (flowOf data) }
  if deliveredOf data = d.delivered then d
  else { d with delivered := deliveredOf data, lastChange := some (d.elapsed.getD 0) }

/-- R108 steps 3 and 4: the outcome an answered READ WATER decides, if any. -/
def doseVerdict (noFlowTime : Nat) (d : Dose) : Option WaterOutcome :=
  if d.limit ≤ d.delivered then some .delivered
  else if noFlowTime ≤ d.elapsed.getD 0 - d.lastChange.getD 0 then some .full
  else none

/-- A dose poll ended (R108). -/
def dosePollEnded (o : TxOutcome) (s : State) : State :=
  match s.wac.dose with
  | none => s
  | some d =>
    let (s, d) := match o with
      | .answer data => (judgeReservoir (reservoirOf data) s, takeDelivered data d)
      | _ => (s, d)
    if d.outcome.isSome then endSequence (setDose d s)
    else
      let verdict := match o with
        | .answer _ => doseVerdict s.settings.noFlowTime d
        | _ => none
      match verdict with
      | some w => decideWater w (setDose d s)
      | none => setDose { d with pollTimer := some 0 } s

/-- PUMP OFF of STOP ended (R112). -/
def pumpOffEnded (o : TxOutcome) (s : State) : State :=
  match s.wac.dose with
  | none => s
  | some d =>
    match o with
    | .answer _ => closeStep d (setPump .off s)
    | _ =>
      if s.wac.pump = .off then
        let d := { d with faultAtEnd := true }
        closeStep d (setDose d s)
      else endDose .kept true (setPump .onUnconfirmed s)

/-- SET VALVE close of CLOSE ended (R113). -/
def closeValveEnded (o : TxOutcome) (s : State) : State :=
  match s.wac.dose with
  | none => s
  | some d =>
    match o with
    | .answer _ => endDose .released d.faultAtEnd (setValve .empty s)
    | _ => endDose .closeFailed true (setValve s.wac.valve.unconfirm s)

/-- A reservoir poll ended (R104): the timer restarts while the flag remains set. -/
def reservoirPollEnded (o : TxOutcome) (s : State) : State :=
  let s := match o with
    | .answer data => judgeReservoir (reservoirOf data) s
    | _ => s
  modWac (fun w => if w.state = .idle ∧ w.reservoirLow then { w with pollTimer := some 0 } else w) s

/-- The PUMP OFF of a FLOW LEAK in IDLE ended: the channel stays in FAULT (R115). -/
def faultPumpOffEnded (o : TxOutcome) (s : State) : State :=
  match o with
  | .answer _ => setPump .off s
  | _ => if s.wac.pump = .off then s else setPump .onUnconfirmed s

/-! ### Eligibility (R55) and the reservoir check (R105) -/

/-- The conditions of R55 that are the same for every entry. -/
def waterOpen (s : State) : Bool :=
  s.wac.state = .idle && isPresent s waterUnit && !s.wac.reservoirLow && !s.plant.discharge
    && !s.plant.hold && loopFree s

/-- The entry's own conditions: string installed and in FLOAT, node present (R54, R55). -/
def stringReady (s : State) (i : StringNo) : Bool :=
  isInstalled s i && (recordOf s i).state = .float && isPresent s (nodeOf i)

/-- R55, without the reservoir check. -/
def eligibleWater (s : State) (e : QueueEntry) : Bool :=
  e.kind = .water && stringReady s e.string && waterOpen s

/-- The reading is below the reserve plus the dose limit (R105, in mL). -/
def reservoirShort (s : State) (reading limit : Nat) : Bool :=
  reading * 100 < s.settings.reserve * 100 + limit

/-- The reservoir check begins for the entry: it places its claim and marks the entry (R105). -/
def beginCheck (i : StringNo) (s : State) : State :=
  claimWater .check
    { s with
      wac := { s.wac with check := some i }
      queue := s.queue.map fun e => if e.same .water i then { e with checked := true } else e }

/-- The entry an ended check was made for, as it stands: none once it has left the queue, though another may have been
posted for its string since (R55, R105). -/
def checkedEntry (i : StringNo) (s : State) : Option QueueEntry :=
  (findEntry .water i s.queue).filter QueueEntry.checked

/-- The reservoir check ended (R105); in FAULT it is judged for the flag alone (R115). A low reading does not set the flag
once the entry checked has left the queue, by the model's choice (assumption 50). -/
def checkEnded (o : TxOutcome) (s : State) : State :=
  let checked := s.wac.check
  let s := modWac (fun w => { w with check := none }) s
  match o with
  | .answer data =>
    let s := judgeReservoir (reservoirOf data) s
    match checked.bind (checkedEntry · s) with
    | some e =>
      match e.work with
      | .water limit =>
        if reservoirShort s (reservoirOf data) limit then setReservoirLow s
        else if eligibleWater s e then beginDose e limit s
        else s
      | .equalise _ => s
    | none => s
  | _ => s

end Sys2Proof.Machine
end

