-- ==== Sys2Proof/Machine/Bars.lean ====
section
/-! DEFINITION. Bars (1.4), the two CLEAR CHANNEL sequences (R80, R118), and the dispatch judgement with the
WINDOW NEEDED condition (R53 to R56, R131). -/

namespace Sys2Proof.Machine

/-! ### Bars (R12 to R14) -/

/-- The pending bar after a further one (R13): the earlier cause is kept, except that DETACH FAILED and CLOSE
FAILED replace any other. -/
def joinBar (present : Option BarCause) (c : BarCause) : BarCause :=
  match present with
  | none => c
  | some p => if c.replaces then c else p

/-- A bar on a string the Equalise Channel holds (R13). -/
def barEqualised (i : StringNo) (b : Option BarCause) (c : BarCause) (s : State) : State :=
  let s := removeBarred i (setStringState i (.equalise (some (joinBar b c))) s)
  if b.isNone then decideEqualise (.aborted c.abortCause) s else s

/-- A bar on a string the Water Channel holds (R13). -/
def barWatered (i : StringNo) (b : Option BarCause) (c : BarCause) (s : State) : State :=
  let s := removeBarred i (setStringState i (.water (some (joinBar b c))) s)
  if b.isNone then decideWater (.aborted c.abortCause) s else s

/-- A bar on a string (R12 to R14): not taken on a string that is not installed. -/
def bar (i : StringNo) (c : BarCause) (s : State) : State :=
  if !isInstalled s i then s
  else match (recordOf s i).state with
    | .float | .settle _ => removeBarred i (setStringState i (.barred c) s)
    | .equalise b => barEqualised i b c s
    | .water b => barWatered i b c s
    | .barred old => setStringState i (.barred (joinBar (some old) c)) s

/-! ### Clearing the channels (R80, R118) -/

/-- The DETACH of CLEAR CHANNEL (EQUALISE) ended (R80). -/
def clearDetachEnded (o : TxOutcome) (s : State) : State :=
  let s := modEqc (fun e => { e with clear := false }) s
  match o with
  | .answer _ => setEqcState .idle (setAttachment .empty s)
  | _ =>
    let s := raise .channelFault s
    match s.eqc.attachment with
    | .names i _ => bar i .detachFailed s
    | .empty => s

/-- A clear that failed leaves the channel in FAULT, with CHANNEL FAULT set again (R118). -/
def waterClearFails (s : State) : State :=
  raise .channelFault (modWac (fun w => { w with clear := false }) s)

/-- A clear that is done: IDLE (R118 item 3). -/
def waterClearDone (s : State) : State :=
  enterWacIdle (modWac (fun w => { w with clear := false }) s)

/-- The PUMP OFF of CLEAR CHANNEL (WATER) ended (R118 item 1). -/
def clearPumpOffEnded (o : TxOutcome) (s : State) : State :=
  match o with
  | .answer _ =>
    let s := setPump .off s
    match s.wac.valve with
    | .names i _ => claimWater (.clearClose i) s
    | .empty => waterClearDone s
  | _ => waterClearFails (if s.wac.pump = .off then s else setPump .onUnconfirmed s)

/-- The SET VALVE close of CLEAR CHANNEL (WATER) ended (R118 item 2): a string the channel still holds is
released. -/
def clearCloseEnded (i : StringNo) (o : TxOutcome) (s : State) : State :=
  let held := (recordOf s i).state.holder = .wac
  match o with
  | .answer _ =>
    let s := setValve .empty s
    waterClearDone (if held then releaseString i none none s else s)
  | _ =>
    let s := setValve s.wac.valve.unconfirm s
    waterClearFails (if held then releaseString i (some .closeFailed) none s else bar i .closeFailed s)

/-! ### Dispatch (R53 to R56) -/

/-- The conditions of R54 that are the same for every entry, but for the window. -/
def equaliseOpenButWindow (s : State) : Bool :=
  s.eqc.state = .idle && isPresent s boostUnit && !s.plant.discharge && !s.plant.stale
    && !s.plant.hold && loopFree s

/-- R54 without the window. -/
def eligibleButWindow (s : State) (e : QueueEntry) : Bool :=
  e.kind = .equalise && stringReady s e.string && equaliseOpenButWindow s

/-- R54. -/
def eligibleEqualise (s : State) (e : QueueEntry) : Bool :=
  eligibleButWindow s e && s.plant.windowOpen

/-- The entry the Equalise Channel would take: the first eligible one in queue order. -/
def selectEqualise (s : State) : Option QueueEntry :=
  (queueOrder s.queue).find? (eligibleEqualise s)

/-- The entry the Water Channel would check, while no check is outstanding (R105). R55 has it judge dispatch at the removal
of the checked entry: by the model's choice it does so once the check has ended (assumption 26). -/
def selectWater (s : State) : Option QueueEntry :=
  if s.wac.check.isSome then none else (queueOrder s.queue).find? (eligibleWater s)

/-- The Equalise Channel's judgement: the claim on a FLOAT string is taken (R7). -/
def judgeEqc (s : State) : State :=
  match selectEqualise s with
  | some e =>
    match e.work with
    | .equalise rn => beginRound e rn s
    | .water _ => s
  | none => s

/-- The Water Channel's judgement: the reservoir check comes before the claim (R105). -/
def judgeWac (s : State) : State :=
  match selectWater s with
  | some e => beginCheck e.string s
  | none => s

/-- Both channels select entries for the same string (R56). -/
def contested (s : State) : Bool :=
  match selectEqualise s, selectWater s with
  | some a, some b => a.string = b.string
  | _, _ => false

/-- The judgement of both channels; a contest for one string may be taken in either order (R56), and a free
value gives it (assumption 4). -/
def judgeChannels (s : State) : State :=
  if contested s then
    let first := Config.waterJudgesFirst s.free
    let s := { s with free := s.free + 1 }
    if first then judgeEqc (judgeWac s) else judgeWac (judgeEqc s)
  else judgeWac (judgeEqc s)

/-- The WINDOW NEEDED condition (R131). -/
def windowNeededNow (s : State) : Bool :=
  !s.plant.windowOpen && s.queue.any (eligibleButWindow s)

/-- The judgement of WINDOW NEEDED: newly found to hold, it raises its notice (R131). -/
def judgeWindowNeeded (s : State) : State :=
  let now := windowNeededNow s
  let s1 := modPlant (fun w => { w with windowNeeded := now }) s
  if now && !s.plant.windowNeeded then raise .windowNeeded s1 else s1

/-- The judgements that follow a change of a condition: each IDLE channel's dispatch, then WINDOW NEEDED
(R53, R130, R131). -/
def judge (s : State) : State :=
  judgeWindowNeeded (judgeChannels s)

end Sys2Proof.Machine
end

