-- ==== Sys2Proof/Machine/Sweep.lean ====
section
/-! DEFINITION. The Sweep Scanner (chapter 2): the composition of a sweep, its items, and what their answers
write. -/

namespace Sys2Proof.Machine

/-! ### The composition of a sweep (R25, R26) -/

def SweepItem.string : SweepItem → StringNo
  | .summary i | .closeValve i | .cells i => i

/-- The installed strings in loop order by the map as it stands (R25, R151). -/
def stringsInLoopOrder (s : State) : List StringNo :=
  (s.settings.loopMap.toList.filterMap stringOf).filter (isInstalled s)

/-- The divider count as the sweep's start judges it (R25). -/
def dividerAtStart (s : State) : Nat :=
  if s.settings.cellDivider ≤ s.sweep.dividerCount then 0 else s.sweep.dividerCount

/-- The count after the start: it advances by 1, and returns to 0 when it reaches the divider. -/
def dividerAfter (s : State) : Nat :=
  if s.settings.cellDivider ≤ dividerAtStart s + 1 then 0 else dividerAtStart s + 1

def cellSweep (s : State) : Bool := dividerAtStart s = 0

/-- The item list of a sweep at its start (R25). -/
def sweepItems (s : State) : List SweepItem :=
  (stringsInLoopOrder s).flatMap fun i =>
    if cellSweep s then [.summary i, .cells i] else [.summary i]

/-- Reach the first item whose string is still installed and place its claim; a sweep left with none ends
(R26). The model's choice of the moment an item is reached: the moment its claim is placed, as R36 has the item whose
claim waits be the one reached, so a string uninstalled after that is still addressed (assumption 35). -/
def reachItem (items : List SweepItem) (s : State) : State :=
  match items.dropWhile (fun it => !isInstalled s it.string) with
  | [] => modSweep (fun w => { w with run := none }) s
  | it :: rest =>
    modLoop (fun l => { l with claimSweep := some it })
      (modSweep (fun w => { w with run := some (it :: rest) }) s)

/-- A sweep starts (R25). -/
def startSweep (s : State) : State :=
  let items := sweepItems s
  reachItem items (modSweep (fun w => { w with dividerCount := dividerAfter s }) s)

/-- Go on with the items that remain; at the end of the sweep a due one starts (R23, R26). -/
def continueSweep (items : List SweepItem) (s : State) : State :=
  let s := reachItem items s
  if s.sweep.run.isNone && s.sweep.due then startSweep (modSweep (fun w => { w with due := false }) s)
  else s

/-- The items after the one reached. -/
def itemsAfter (s : State) : List SweepItem :=
  match s.sweep.run with
  | some items => items.drop 1
  | none => []

/-! ### The match (R23, R24) -/

/-- A sweep in progress is late: due and late are set, and a late flag newly set raises CELL ALARM. -/
def lateMatch (s : State) : State :=
  let s1 := modSweep (fun w => { w with due := true, late := true }) s
  if s.sweep.late then s1 else raise .cellAlarm s1

/-- The timer's match as the scanner takes it (R23, R24). -/
def sweepMatched (s : State) : State :=
  if s.sweep.run.isSome then lateMatch s
  else startSweep (if s.sweep.due then s else modSweep (fun w => { w with late := false }) s)

/-! ### Taking a summary (R27 to R29) -/

/-- The summary's fields after calibration and clamping (R27). -/
def calibratedVoltage (offset : Int) (mV : Nat) : Nat :=
  (clampTo 0 65535 ((mV : Int) + offset)).toNat

/-- Δt of R28: the temperature age capped at twice the sweep interval; 0 at 65 535 s. -/
def throughputInterval (age interval : Nat) : Nat :=
  if age = 65535 then 0 else min age (2 * interval)

/-- The addition of R28 in 0.1 A·s. -/
def throughputAddition (is : Int) (dt : Nat) : Nat :=
  if is < -10 then is.natAbs * dt else 0

/-- A summary write with its throughput addition (R2, R27, R28). -/
def summaryWrite (offset : Int) (interval : Nat) (data : List Octet) (r : StringRecord) : StringRecord :=
  let is := clampTo (-32768) 32767 (halfAt data 2).toInt
  addThroughput (throughputAddition is (throughputInterval r.age interval))
    { r with
      voltage := calibratedVoltage offset (halfAt data 0).toNat
      current := is
      temperature := clampTo (-400) 1250 (halfAt data 4).toInt
      levelLow := flagAt data 6
      age := 0 }

/-- The valve state a summary reports: true for open. -/
def valveReportedOpen (data : List Octet) : Bool := flagAt data 7

/-- An answered READ SUMMARY: the write, then the valve judgement (R27, R29). A string uninstalled meanwhile keeps
its fields (R1, assumption 23). -/
def summaryAnswered (i : StringNo) (data : List Octet) (s : State) : State :=
  let s := if isInstalled s i then
      modString i (summaryWrite s.settings.calibration[i] s.settings.sweepInterval data) s
    else s
  let rest := itemsAfter s
  continueSweep
    (if valveReportedOpen data && !s.wac.valve.holds i then .closeValve i :: rest else rest) s

/-! ### Taking the cells (R31 to R33) -/

/-- A cell code after its offset, which is the string's divided by 24, truncated toward zero (R31). -/
def calibratedCell (offset : Int) (code : Nat) : Nat :=
  (clampTo 0 4095 ((code : Int) + Int.tdiv offset 24)).toNat

/-- The 24 cells of a READ CELLS reply (R31). -/
def cellsOf (offset : Int) (data : List Octet) : Vector Nat 24 :=
  Vector.ofFn fun k => calibratedCell offset (halfAt data (2 * k.val)).toNat

/-- The post of an excess spread (R32). -/
def spreadPost (i : StringNo) (s : State) : QueueEntry where
  work := .equalise s.settings.defaultRecipe[i]
  string := i
  urgency := .urgent
  origin := .sweep

/-- The spread check on the cells just written (R32, R33). -/
def spreadCheck (i : StringNo) (spread : Nat) (s : State) : State :=
  if isInstalled s i && (recordOf s i).state = .float && s.settings.spreadLimit < spread then
    raise .cellAlarm
      (modSweep (fun w => { w with alarm := some (i, spread) }) (post (spreadPost i s) s).1)
  else s

/-- An answered READ CELLS: the write and the spread check (R31, R32). -/
def cellsAnswered (i : StringNo) (data : List Octet) (s : State) : State :=
  let s := if isInstalled s i then
      let cells := cellsOf s.settings.calibration[i] data
      spreadCheck i (spreadOf cells) (modString i (fun r => { r with cells := some cells }) s)
    else s
  continueSweep (itemsAfter s) s

/-! ### The end of an item's transaction -/

/-- R27 to R32; a failed summary drops the node's READ CELLS (R30). -/
def sweepItemEnded (it : SweepItem) (o : TxOutcome) (s : State) : State :=
  match it, o with
  | .summary i, .answer data => summaryAnswered i data s
  | .summary i, _ => continueSweep ((itemsAfter s).filter (fun x => x ≠ .cells i)) s
  | .cells i, .answer data => cellsAnswered i data s
  | _, _ => continueSweep (itemsAfter s) s

end Sys2Proof.Machine
end

