-- ==== Sys2Proof/Machine/Demand.lean ====
section
/-! DEFINITION. The Demand Unit (chapter 9): its claim, the poll's end, the demands it takes, the
reconfiguration list and the Demand FIFO. -/

namespace Sys2Proof.Machine

/-! ### The unit's one claim (R154, R158) -/

/-- The reconfiguration write in flight. -/
def configInFlight (s : State) : Option StringNo :=
  match s.loop.inFlight with
  | some (.transaction t) => match t.claimant with | .reconfiguration i => some i | _ => none
  | _ => none

/-- The lowest address in the list whose wait is 0 (R158). -/
def configDue (s : State) : Option StringNo :=
  (List.finRange 8).find? fun i => s.demand.list[i] = some 0

/-- A poll is wanted: the line asserted, or a confirmation owed (R154). -/
def pollWanted (s : State) : Bool :=
  s.demand.line || s.demand.owed.isSome

/-- The unit's claim is judged: the poll is claimed first, and takes the place of a pending reconfiguration
write; a write in flight runs to its end first (R154, R158). By the model's choice the next listed address too is claimed
only once the write in flight has ended (assumption 51), and a pending write claim is kept when the wait of a lower address
comes to 0 (assumption 44). -/
def judgeDemand (s : State) : State :=
  if (configInFlight s).isSome then s
  else match s.demand.poll with
    | .claimed | .inFlight => s
    | st =>
      if st = .idle ∧ pollWanted s then
        modLoop (fun l => { l with claimDemand := some .poll })
          (modDemand (fun d => { d with poll := .claimed }) s)
      else match s.loop.claimDemand, configDue s with
        | none, some i => modLoop (fun l => { l with claimDemand := some (.config i) }) s
        | _, _ => s

/-! ### The reconfiguration list (R158) -/

def setWait (i : StringNo) (w : Option Nat) (s : State) : State :=
  modDemand (fun d => { d with list := d.list.set i w }) s

/-- A node restarted: it is in the list with wait 0; a write of it in flight counts for nothing (R158). -/
def listRestarted (i : StringNo) (s : State) : State :=
  let s1 := setWait i (some 0) s
  if configInFlight s = some i then modDemand (fun d => { d with rewrite := true }) s1 else s1

/-- Every installed string's node is added with wait 0 (R158, R162). -/
def listInstalled (s : State) : State :=
  modDemand (fun d => { d with
    list := Vector.ofFn fun i => if s.settings.installed[i] then some 0 else d.list[i] }) s

/-- A reconfiguration write ended (R158). -/
def configEnded (i : StringNo) (o : TxOutcome) (s : State) : State :=
  let wait := if s.demand.rewrite then some 0
    else match o with
      | .answer _ => none
      | _ => some Config.reconfigurationWait
  setWait i wait (modDemand (fun d => { d with rewrite := false }) s)

/-! ### Taking a demand (R157, R158) -/

/-- The URGENT WATER post of a LEVEL LOW (R157). -/
def levelPost (i : StringNo) (s : State) : QueueEntry where
  work := .water s.settings.dmax
  string := i
  urgency := .urgent
  origin := .demand

/-- The round an event of the string's node reaches in the Equalise Channel: the undecided one on it. -/
def decideOnString (i : StringNo) (o : EqOutcome) (s : State) : State :=
  match s.eqc.round with
  | some r => if r.string = i then decideEqualise o s else s
  | none => s

/-- The same in the Water Channel. -/
def decideDoseOn (i : StringNo) (o : WaterOutcome) (s : State) : State :=
  match s.wac.dose with
  | some d => if d.string = i then decideWater o s else s
  | none => s

/-- NODE RESTART of a String Node (R158): the round abort first, then the list. -/
def nodeRestarted (i : StringNo) (s : State) : State :=
  listRestarted i
    (decideDoseOn i (.aborted .nodeRestart) (decideOnString i (.aborted .nodeRestart) s))

/-- The action of a demand from String Node `i` (R157). -/
def nodeDemand (i : StringNo) (k : DemandKind) (s : State) : State :=
  match k with
  | .levelLow => (post (levelPost i s) s).1
  | .overTemp => decideOnString i (.aborted .overTemp) s
  | .valveFault => bar i .valveFault s
  | .nodeRestart => nodeRestarted i s
  | .boostFault | .reservoirLow | .flowLeak => s

/-- The action of a demand from the Boost Unit (R157, R158). -/
def boostDemand (k : DemandKind) (s : State) : State :=
  match k with
  | .nodeRestart => boostDistrusted .nodeRestart s
  | .boostFault => boostDistrusted .boostFault s
  | .levelLow | .overTemp | .valveFault | .reservoirLow | .flowLeak => s

/-- The action of a demand from the Water Unit (R157, R158). -/
def waterDemand (k : DemandKind) (s : State) : State :=
  match k with
  | .nodeRestart => decideWater (.aborted .nodeRestart) s
  | .reservoirLow => setReservoirLow s
  | .flowLeak => flowLeak s
  | .levelLow | .overTemp | .valveFault | .boostFault => s

/-- The action by kind and source class (R157): a kind that does not belong to its source has none. -/
def demandAction (w : DemandWord) (s : State) : State :=
  match stringOf w.member with
  | some i => nodeDemand i w.kind s
  | none => if w.member = boostUnit then boostDemand w.kind s else waterDemand w.kind s

/-! ### The Demand FIFO (R159) -/

/-- An append to a FIFO with room; DEMAND PENDING where it was empty. -/
def appendEntry (e : FifoEntry) (s : State) : State :=
  let s1 := modDemand (fun d => { d with fifo := d.fifo ++ [e] }) s
  if s.demand.fifo.isEmpty then raise .demandPending s1 else s1

/-- A drop at a full FIFO; DEMAND OVERFLOW where the flag was clear. -/
def dropDemand (s : State) : State :=
  let s1 := modDemand (fun d => { d with overflow := true, dropped := satAdd 255 d.dropped 1 }) s
  if s.demand.overflow then s1 else raise .demandOverflow s1

/-- R159: the word with the site time of its taking. -/
def appendDemand (w : DemandWord) (s : State) : State :=
  if s.demand.fifo.length < Config.fifoCapacity then appendEntry { word := w, time := s.clock } s
  else dropDemand s

/-- A word is taken: its action first, then the FIFO (R157). -/
def takeWord (w : DemandWord) (s : State) : State :=
  appendDemand w (demandAction w s)

/-! ### The end of a poll (R154, R156) -/

/-- The poll returned unspoiled: idle again, with the confirmation then owed. -/
def pollReturned (owed : Option (MemberNo × DemandKind)) (s : State) : State :=
  modDemand (fun d => { d with poll := .idle, failures := 0, owed := owed }) s

/-- The poll failed: the confirmation is kept, and spacing begins. -/
def pollFailed (s : State) : State :=
  modDemand (fun d => { d with poll := .spacing, failures := satAdd 255 d.failures 1 }) s

/-- The three ends of R156. -/
def takePoll (r : PollRead) (s : State) : State :=
  match r with
  | .empty => pollReturned none s
  | .word w => takeWord w (pollReturned (some (w.member, w.kind)) s)
  | .failed => pollFailed s

end Sys2Proof.Machine
end

