-- ==== Sys2Proof/Machine/Loop.lean ====
section
/-! DEFINITION. The Loop Controller (chapter 8): transactions and their attempts, presence, the safe-state
sequence, loop release, the pass-through slots and the arbiter's grants. -/

namespace Sys2Proof.Machine

/-! ### Transactions in flight (R137, R138) -/

def setInFlight (x : Option InFlight) (s : State) : State :=
  modLoop (fun l => { l with inFlight := x }) s

/-- The transaction in flight, if it is one. -/
def transactionInFlight (s : State) : Option Transaction :=
  match s.loop.inFlight with
  | some (.transaction t) => some t
  | _ => none

/-- What a first request of the class waits for (R137): the fixed delay in F and FH, unless it is 0 ms. -/
def firstWait (c : ClassEntry) : Wait :=
  match c.cls with
  | .f | .fh => if c.delay = 0 then .reply else .delay
  | .h | .a => .reply

/-- A grant: the transaction opens with the member's class entry and no hold or retry (R137, R138). -/
def startTransaction (who : Claimant) (m : MemberNo) (c : LoopCommand) (s : State) : State :=
  let cls := s.settings.classes[m]
  setInFlight (some (.transaction
    { claimant := who, member := m, command := c, cls := cls, holds := 0, retries := 0,
      wait := firstWait cls })) s

def putTransaction (t : Transaction) (s : State) : State :=
  setInFlight (some (.transaction t)) s

/-- The repeat a HOLD reply brings, if the class allows one (R137). -/
def repeatOnHold (t : Transaction) : Option Transaction :=
  match t.cls.cls with
  | .f => none
  | .h | .fh =>
    if t.holds < t.cls.holdLimit then some { t with holds := t.holds + 1, wait := .reply } else none
  | .a =>
    if t.holds = 0 then
      some { t with holds := 1, wait := if t.cls.delay = 0 then .reply else .autoRepeat }
    else none

/-- The retry a no-answer or line-fault attempt brings, if any is left (R138). -/
def retryAfter (t : Transaction) : Option Transaction :=
  if t.retries < Config.retries then some { t with retries := t.retries + 1, wait := firstWait t.cls }
  else none

/-! ### Presence (R139, R140) -/

/-- The failure count after an outcome (R139). -/
def failuresAfter (o : TxOutcome) (n : Nat) : Nat :=
  match o with
  | .answer _ => 0
  | _ => min Config.failuresForAbsence (n + 1)

/-- The outcome marks the member absent: the count reaches 3 and the member is marked present (R139). -/
def marksAbsent (s : State) (m : MemberNo) (o : TxOutcome) : Bool :=
  isPresent s m && failuresAfter o s.loop.failures[m] = Config.failuresForAbsence

/-- The presence table after an outcome (R139, R140). -/
def countOutcome (m : MemberNo) (o : TxOutcome) (s : State) : State :=
  modLoop (fun l => { l with
    failures := l.failures.set m (failuresAfter o l.failures[m])
    present := l.present.set m (match o with
      | .answer _ => true
      | _ => l.present[m] && failuresAfter o l.failures[m] ≠ Config.failuresForAbsence) }) s

/-- The marking absent, handed on (R139). -/
def handAbsence (m : MemberNo) (s : State) : State :=
  match stringOf m with
  | some i => bar i .nodeLost s
  | none =>
    if m = boostUnit then decideEqualise (.aborted .boostLost) s
    else decideWater (.aborted .pumpLost) s

/-! ### Slots (R145, R146, R149) -/

def slotOf (s : State) : SlotPort → Slot
  | .plant => s.loop.plantSlot
  | .service => s.loop.serviceSlot

def setSlot (p : SlotPort) (x : Slot) (s : State) : State :=
  match p with
  | .plant => modLoop (fun l => { l with plantSlot := x }) s
  | .service => modLoop (fun l => { l with serviceSlot := x }) s

/-- A slot becomes done, with LOOP RESULT READY in every port (R146). -/
def slotDone (p : SlotPort) (r : SlotResult) (s : State) : State :=
  raise .loopResultReady (setSlot p (.done r) s)

/-- The string of the addressed node is in EQUALISE or WATER (R145). -/
def nodeBusy (s : State) (m : MemberNo) : Bool :=
  match stringOf m with
  | some i => (recordOf s i).state.holder ≠ .none
  | none => false

/-- The grant of a slot's claim: a WRITE CONFIG is judged again (R145). -/
def grantSlot (p : SlotPort) (m : MemberNo) (c : LoopCommand) (s : State) : State :=
  if c.isConfig && nodeBusy s m then slotDone p .locked s
  else startTransaction (.slot p) m c (setSlot p .inFlight s)

/-! ### The safe-state sequence (R151) -/

/-- The steps of a sequence that starts now: the closes in loop order, the pump, the Boost Unit. -/
def safeSteps (s : State) : List SafeStep :=
  ((stringsInLoopOrder s).filter fun i => isPresent s (nodeOf i)).map SafeStep.close
    ++ [.pumpOff, .boost]

def setRelease (r : Release) (s : State) : State :=
  modLoop (fun l => { l with release := r }) s

/-- The channel's waiting DETACH claim is withdrawn when the sequence's DETACH serves it (R82). -/
def serveDetach (s : State) : State :=
  match s.loop.claimEqualise with
  | some .detach | some .faultDetach | some .clearDetach => withdrawEqualise s
  | _ => s

/-- A clear's waiting PUMP OFF claim is withdrawn when the sequence's serves it (R119). -/
def servePumpOff (s : State) : State :=
  match s.loop.claimWater with
  | some .clearPumpOff => withdrawWater s
  | _ => s

/-- What the sequence sends the Boost Unit (R82, R151): ATTACH for a PAUSED round with no outcome decided, DETACH
in every other case. -/
def sendBoost (s : State) : State :=
  match s.eqc.state, openRound s with
  | .paused, some r => startTransaction (.safeState (.attach r.string)) boostUnit (.attach r.string) s
  | _, _ => startTransaction (.safeState .detach) boostUnit .detach (serveDetach s)

def sendStep (x : SafeStep) (s : State) : State :=
  match x with
  | .close i => startTransaction (.safeState (.close i)) (nodeOf i) (.setValve false) s
  | .pumpOff => startTransaction (.safeState .pumpOff) waterUnit .pumpOff (servePumpOff s)
  | .boost => sendBoost s

/-- The end of the sequence: PENDING where a TAKE LOOP is recorded, FREE otherwise (R151). -/
def finishSafe (recorded : Bool) (s : State) : State :=
  if recorded then setRelease .pending s
  else removePause .loopRelease (setRelease .free s)

/-- A close whose string is no longer installed is not sent (R1). -/
def SafeStep.dropped (s : State) : SafeStep → Bool
  | .close i => !isInstalled s i
  | .pumpOff | .boost => false

/-- The next step of the sequence, or its end. -/
def nextSafe (s : State) : State :=
  match s.loop.release with
  | .safeState recorded (some todo) =>
    match todo.dropWhile (SafeStep.dropped s) with
    | x :: rest => sendStep x (setRelease (.safeState recorded (some rest)) s)
    | [] => finishSafe recorded s
  | _ => s

/-- The sequence starts: its closes are listed by the map, the installed flags and the presence as they stand
(R151). -/
def startSafe (s : State) : State :=
  match s.loop.release with
  | .safeState recorded none => nextSafe (setRelease (.safeState recorded (some (safeSteps s))) s)
  | _ => s

/-- The sequence's DETACH ended, as R82 states it. -/
def safeDetachEnded (o : TxOutcome) (s : State) : State :=
  match s.eqc.state with
  | .fault => if s.eqc.clear then clearDetachEnded o s
    else match o with
      | .answer _ => setAttachment .empty s
      | _ => s
  | .idle =>
    match o with
    | .answer _ => s
    | _ => enterEqcFault s
  | _ => detachEnded o s

/-- The sequence's PUMP OFF ended, as R119 states it. -/
def safePumpOffEnded (o : TxOutcome) (s : State) : State :=
  match s.wac.state with
  | .fault => if s.wac.clear then clearPumpOffEnded o s else s
  | .idle =>
    match o with
    | .answer _ => s
    | _ => enterWacFault s
  | _ => s

/-- The sequence's ATTACH ended (R62, R82). -/
def safeAttachEnded (i : StringNo) (o : TxOutcome) (s : State) : State :=
  match o with
  | .answer _ => setAttachment (.names i true) s
  | _ => decideEqualise (.aborted (attachFailure o)) s

/-- The sequence's STANDBY ended (R82): LOOP RELEASE is removed unless a TAKE LOOP is recorded. -/
def safeStandbyEnded (o : TxOutcome) (s : State) : State :=
  match o with
  | .answer _ =>
    match s.loop.release with
    | .safeState true _ => s
    | _ => removePause .loopRelease s
  | _ => decideEqualise (.aborted .boostLost) s

/-- A transaction of the sequence ended: its outcome is handed to the channel concerned (R82, R119). -/
def safeJobEnded (j : SafeJob) (o : TxOutcome) (s : State) : State :=
  match j, o with
  | .close _, .answer _ => s
  | .close i, _ => bar i .closeFailed s
  | .pumpOff, o => safePumpOffEnded o s
  | .attach i, o => safeAttachEnded i o s
  | .standby _, o => safeStandbyEnded o s
  | .detach, o => safeDetachEnded o s

/-- The sequence goes on after a transaction of its own: an answered ATTACH is followed by STANDBY (R151). -/
def safeGoesOn (j : SafeJob) (o : TxOutcome) (s : State) : State :=
  match j, o with
  | .attach i, .answer _ => startTransaction (.safeState (.standby i)) boostUnit .standby s
  | _, _ => nextSafe s

/-! ### The end of a transaction (R138, R139) -/

/-- The outcome, handed to the claimant. -/
def handOutcome (who : Claimant) (o : TxOutcome) (s : State) : State :=
  match who with
  | .reconfiguration i => configEnded i o s
  | .sweep it => sweepItemEnded it o s
  | .slot p => slotDone p (.outcome o) s
  | .safeState j => safeJobEnded j o s
  | .water j =>
    match j with
    | .check => checkEnded o s
    | .reservoirPoll => reservoirPollEnded o s
    | .openValve i => openValveEnded i o s
    | .pumpOn => pumpOnEnded o s
    | .dosePoll => dosePollEnded o s
    | .pumpOff => pumpOffEnded o s
    | .closeValve _ => closeValveEnded o s
    | .faultPumpOff => faultPumpOffEnded o s
    | .clearPumpOff => clearPumpOffEnded o s
    | .clearClose i => clearCloseEnded i o s
  | .equalise j =>
    match j with
    | .attach i => attachEnded i o s
    | .connectStandby => connectStandbyEnded o s
    | .setPoint _ =>
      match o with
      | .answer data => setPointAnswered (readingOf data) s
      | _ => setPointFailed s
    | .pauseStandby => pauseStandbyEnded o s
    | .refresh => refreshEnded o s
    | .detach => detachEnded o s
    | .faultDetach => faultDetachEnded o s
    | .clearDetach => clearDetachEnded o s

/-- The outcome and the marking absent reach the claimant as two events, in either order: a free value gives it
(R139, assumption 3). -/
def handBoth (t : Transaction) (o : TxOutcome) (s : State) : State :=
  let first := Config.markingFirst s.free
  let s := { s with free := s.free + 1 }
  if first then handOutcome t.claimant o (setInFlight none (handAbsence t.member s))
  else handAbsence t.member (handOutcome t.claimant o (setInFlight none s))

/-- What the end of a transaction is followed by: the sequence's next step, or the sequence that a release's end
left waiting for the Service port's exchange (R150, R151). -/
def afterEnd (t : Transaction) (o : TxOutcome) (s : State) : State :=
  match t.claimant with
  | .safeState j => safeGoesOn j o s
  | _ => if s.loop.inFlight.isNone then startSafe s else s

/-- A transaction ends with its outcome (R138 to R140); the judgements follow. -/
def endTransaction (t : Transaction) (o : TxOutcome) (s : State) : State :=
  let counted := countOutcome t.member o s
  let s1 := if marksAbsent s t.member o then handBoth t o counted
    else handOutcome t.claimant o (setInFlight none counted)
  judgeDemand (judge (afterEnd t o s1))

/-- An attempt that failed: a retry, or the end with the outcome given (R138). -/
def failAttempt (t : Transaction) (o : TxOutcome) (s : State) : State :=
  match retryAfter t with
  | some t' => putTransaction t' s
  | none => endTransaction t o s

/-- A reply read whole (R138). -/
def takeReply (t : Transaction) (r : ReplyRead) (s : State) : State :=
  match r with
  | .ok data => endTransaction t (.answer data) s
  | .error c => endTransaction t (.fault c) s
  | .hold =>
    match repeatOnHold t with
    | some t' => putTransaction t' s
    | none => endTransaction t .holdExhausted s
  | .spoiled => failAttempt t .lineFault s

/-! ### Loop release (R147 to R150) -/

/-- The conditions of the release grant (R148). -/
def grantConditions (s : State) : Bool :=
  s.wac.valve = .empty && s.wac.pump = .off
    && (match s.eqc.state with
      | .connect | .raise | .hold | .detach => false
      | .idle | .paused | .fault => true)
    && (match s.wac.state with
      | .idle | .fault => true
      | _ => false)

/-- The Service slot's waiting request, carried out as part of the release (R145, R149). -/
def grantService (s : State) : State :=
  match s.loop.serviceSlot with
  | .waiting m c => grantSlot .service m c s
  | _ => s

/-- The grant of the release: the release timer starts at 0 (R148). -/
def grantRelease (s : State) : State :=
  grantService (modLoop (fun l => { l with release := .released false, releaseTimer := 0 }) s)

/-- The end of a release (R150): the sequence starts, or waits for a Service-slot exchange still in flight. -/
def endRelease (s : State) : State :=
  let s := setRelease (.safeState false none) s
  if s.loop.inFlight.isNone then startSafe s else s

/-! ### The arbiter (R144) -/

/-- The arbiter may grant a claim of levels 2 to 6: nothing is in flight, and the loop is FREE, or PENDING with the
conditions of the grant failing (R144, R148). -/
def arbiterOpen (s : State) : Bool :=
  s.loop.inFlight.isNone && (match s.loop.release with
    | .free => true
    | .pending => !grantConditions s
    | .released _ | .safeState _ _ => false)

/-- The grant of the Demand Unit's claim (R154, R155, R158). -/
def grantDemand (j : DemandJob) (s : State) : State :=
  let s := modLoop (fun l => { l with claimDemand := none }) s
  match j with
  | .poll =>
    setInFlight (some (.poll s.demand.owed)) (modDemand (fun d => { d with poll := .inFlight }) s)
  | .config i =>
    startTransaction (.reconfiguration i) (nodeOf i)
      (.writeConfig (BitVec.ofNat 16 s.settings.threshold)) s

/-- The grant of the scanner's claim; a close item whose string the valve record names by then is handed back
unused (R29). -/
def grantSweep (it : SweepItem) (s : State) : State :=
  let s := modLoop (fun l => { l with claimSweep := none }) s
  match it with
  | .summary i => startTransaction (.sweep it) (nodeOf i) .readSummary s
  | .cells i => startTransaction (.sweep it) (nodeOf i) .readCells s
  | .closeValve i =>
    if s.wac.valve.holds i then continueSweep (itemsAfter s) s
    else startTransaction (.sweep it) (nodeOf i) (.setValve false) s

/-- The grant of the Water Channel's claim; PUMP ON sets pump on sent (R107). -/
def grantWater (j : WaterJob) (s : State) : State :=
  let s := withdrawWater s
  match j with
  | .check | .reservoirPoll | .dosePoll => startTransaction (.water j) waterUnit .readWater s
  | .openValve i => startTransaction (.water j) (nodeOf i) (.setValve true) s
  | .pumpOn =>
    startTransaction (.water j) waterUnit .pumpOn (modDose (fun d => { d with pumpOnSent := true }) s)
  | .pumpOff | .faultPumpOff | .clearPumpOff => startTransaction (.water j) waterUnit .pumpOff s
  | .closeValve i | .clearClose i => startTransaction (.water j) (nodeOf i) (.setValve false) s

/-- The grant of the Equalise Channel's claim; a SET POINT sent becomes the setpoint last sent (R93). -/
def grantEqualise (j : EqJob) (s : State) : State :=
  let s := withdrawEqualise s
  match j with
  | .attach i => startTransaction (.equalise j) boostUnit (.attach i) s
  | .setPoint sp =>
    startTransaction (.equalise j) boostUnit
      (.setPoint (BitVec.ofNat 16 sp.target) (BitVec.ofNat 16 sp.perm))
      (modRound (fun r => { r with acct := { r.acct with sent := some sp } }) s)
  | .connectStandby | .pauseStandby | .refresh => startTransaction (.equalise j) boostUnit .standby s
  | .detach | .faultDetach | .clearDetach => startTransaction (.equalise j) boostUnit .detach s

/-- The grant of a slot's claim: the Service slot's before the Plant slot's (R144). -/
def grantPassThrough (s : State) : State :=
  match s.loop.serviceSlot, s.loop.plantSlot with
  | .waiting m c, _ => grantSlot .service m c s
  | _, .waiting m c => grantSlot .plant m c s
  | _, _ => s

/-- The pending claim of the highest level is granted (R144). -/
def grantHighest (s : State) : State :=
  match s.loop.claimDemand, s.loop.claimSweep, s.loop.claimWater, s.loop.claimEqualise with
  | some j, _, _, _ => grantDemand j s
  | none, some it, _, _ => grantSweep it s
  | none, none, some j, _ => grantWater j s
  | none, none, none, some j => grantEqualise j s
  | none, none, none, none => grantPassThrough s

end Sys2Proof.Machine
end

