-- ==== Sys2Proof/Machine/Plant.lean ====
section
/-! DEFINITION. The Window and Plant Unit (chapter 7): the energy window, the plant status record, the hold and the
site conditions it hands on. -/

namespace Sys2Proof.Machine

/-! ### The energy window (R123 to R125) -/

/-- R124 item 2: the clamps of budget and minutes. -/
def clampBudget (b : Half) : Nat := min b.toNat Config.budgetTop
def clampMinutes (m : Half) : Nat := min m.toNat Config.durationTop

/-- The window is opened or replaced; an opening removes WINDOW CLOSED (R124). -/
def openWindow (budget minutes : Nat) (s : State) : State :=
  let s1 := modPlant (fun w => { w with windowOpen := true, budget := budget, remaining := minutes }) s
  judge (if s.plant.windowOpen then s1 else removePause .windowClosed s1)

/-- The window closes, by CLOSE WINDOW or by expiry; the budget is kept (R123, R125). -/
def closeWindowNow (s : State) : State :=
  if s.plant.windowOpen then
    judge (addPause .windowClosed
      (modPlant (fun w => { w with windowOpen := false, remaining := 0 }) s))
  else s

/-! ### The plant status record (R126 to R128) -/

/-- The supply a report names (Table 10.10). -/
def supplyOf (o : Octet) : Option Bool :=
  if o = 0 then some false else if o = 1 then some true else none

/-- The quantities of a report, clamped to the ranges of Table 7.3. -/
def plantReportOf (discharge : Bool) (busVoltage load headroom : Quad) : PlantReport where
  discharge := discharge
  busVoltage := (clampTo 0 65535 busVoltage.toInt).toNat
  load := (clampTo 0 32767 load.toInt).toNat
  headroom := clampTo (-32768) 32767 headroom.toInt

/-- A quantity of the report was clamped. -/
def reportClamped (busVoltage load headroom : Quad) : Bool :=
  clampTo 0 65535 busVoltage.toInt ≠ busVoltage.toInt || clampTo 0 32767 load.toInt ≠ load.toInt
    || clampTo (-32768) 32767 headroom.toInt ≠ headroom.toInt

/-- DISCHARGE arises and is handed to both channels (R128). Where it ends a round and a dose at once, the record of the
round is written first, by the model's choice (assumption 45): R171 has the two writers taken in either order. -/
def dischargeArises (s : State) : State :=
  decideWater .stopped (decideEqualise (.aborted .discharge) s)

/-- STALE ends (R127). A STALE that a tick has handed over and that is not yet taken is dropped, by the model's choice: the
report counts as taken before that tick (assumption 53). -/
def staleEnds (s : State) : State :=
  let s1 := modPlant (fun w => { w with stale := false, staleDue := false }) s
  if s.plant.stale then removePause .stale s1 else s1

/-- A PLANT STATUS write: DISCHARGE arises first, STALE then ends, and dispatch is judged last (R126 to R128,
R130). -/
def writePlant (r : PlantReport) (s : State) : State :=
  let s1 := modPlant (fun w => { w with report := some r, age := 0, aged := false }) s
  judge (staleEnds (if r.discharge && !s.plant.discharge then dischargeArises s1 else s1))

/-- STALE arises, or the age has passed the staleness time with no report since the reset (R127). -/
def staleArises (s : State) : State :=
  let s1 := modPlant (fun w => { w with stale := true, staleDue := false }) s
  judge (raise .plantStale (if s.plant.stale then s1 else addPause .stale s1))

/-! ### The maintenance hold (R129) -/

def setHold (s : State) : State :=
  if s.plant.hold then s
  else judge (addPause .held (modPlant (fun w => { w with hold := true }) s))

def clearHold (s : State) : State :=
  if s.plant.hold then judge (removePause .held (modPlant (fun w => { w with hold := false }) s))
  else s

/-! ### The forecast (R132) -/

/-- The nominal energy of the recipe an entry names. -/
def entryEnergy (s : State) (e : QueueEntry) : Nat :=
  match e.work with
  | .equalise rn => s.settings.recipes[rn].nominalEnergy
  | .water _ => 0

/-- The running part: the nominal energy of the recipe copied, minus the energy so far, floored at 0. -/
def runningEnergy (s : State) : Nat :=
  match s.eqc.round with
  | some r => r.recipe.nominalEnergy - energyReported r.acct
  | none => 0

def energyEstimate (s : State) : Nat :=
  (s.queue.map (entryEnergy s)).sum + runningEnergy s

end Sys2Proof.Machine
end

