-- ==== Sys2Proof/Machine/Schedule.lean ====
section
/-! DEFINITION. The Schedule List (3.2, 3.3): the due conditions and the traversal. -/

namespace Sys2Proof.Machine

/-- An hours field that makes an entry due: absent, or at or above the interval (R41, R42). -/
def hoursDue (hours : Option Nat) (interval : Nat) : Bool :=
  match hours with
  | none => true
  | some h => interval ≤ h

/-- The throughput trigger: not 0, and reached in 0.1 Ah (R41). -/
def triggerDue (throughput trigger : Nat) : Bool :=
  trigger ≠ 0 && 10 * trigger ≤ throughput

/-- R41 and R42, from the string's record as it stands. -/
def entryDue (s : State) (e : ScheduleEntry) : Bool :=
  match e.work with
  | .equalise _ trigger =>
    hoursDue (recordOf s e.string).hoursEqualise e.interval
      || triggerDue (recordOf s e.string).throughput trigger
  | .water _ => hoursDue (recordOf s e.string).hoursWater e.interval

/-- The post of a due entry (R43). -/
def schedulePost (e : ScheduleEntry) : QueueEntry where
  work := match e.work with
    | .equalise recipe _ => .equalise recipe
    | .water limit => .water limit
  string := e.string
  urgency := .normal
  origin := .schedule

/-- One entry of the traversal (R40): a due one posts, and dispatch is judged at the post (R48, R53). -/
def judgeEntry (s : State) (i : Fin 24) : State :=
  let e := s.settings.schedule[i]
  if e.enabled && isInstalled s e.string && entryDue s e then judge (post (schedulePost e) s).1 else s

/-- The Schedule List is traversed in index order (R40). -/
def traverse (s : State) : State :=
  (List.finRange 24).foldl judgeEntry s

end Sys2Proof.Machine
end

