-- ==== Sys2Proof/Machine/Reset.lean ====
section
/-! DEFINITION. Power-on and pin reset: what each block takes (R20, R21, R37, R59, R84, R122, R134, R152, R162,
R163, R170, R174, R177, R178) and the safe-state sequence that follows (R151). -/

namespace Sys2Proof.Machine

/-- Table 1.5, the pin reset column: BARRED is kept, a pending bar becomes one, and history is retained. -/
def StringRecord.pinReset (r : StringRecord) : StringRecord :=
  { r with
    state := match r.state with
      | .barred c => .barred c
      | .equalise (some c) | .water (some c) => .barred c
      | _ => .float
    voltage := 0
    current := 0
    temperature := 0
    age := 65535
    levelLow := false
    cells := none }

/-- The line rate the two strap pins give (R163). -/
def lineRateOf (p : StrapPair) : LineRate :=
  match p.rs1, p.rs0 with
  | false, false => .b9600
  | false, true => .b19200
  | true, false => .b38400
  | true, true => .b9600

/-- R163, R170. -/
def portsAfterReset (straps : Straps) : Ports where
  plant := PortUnit.reset (lineRateOf straps.plant)
  energy := PortUnit.reset (lineRateOf straps.energy)
  service := PortUnit.reset (lineRateOf straps.service)

/-- The load of the working settings (R177). -/
def loadedSettings (st : Store) : Settings :=
  if st.checkHolds then st.copy else Settings.factory

/-- The store after a load: its check stands as it did, and the detail says whether it failed (R176, R177). -/
def storeAfterReset (st : Store) : Store :=
  { st with storing := false, modified := false, defaulted := !st.checkHolds }

/-- What every reset does to the blocks that retain nothing. Strings, log and clock are the caller's; the level of
the DEMAND line is the members'. -/
def blocksReset (straps : Straps) (s : State) : State :=
  { s with
    time := Timebase.reset
    sweep := Sweep.reset
    schedule := ScheduleTimer.reset
    queue := []
    eqc := Eqc.reset
    wac := Wac.reset
    plant := PlantUnit.reset
    loop := Loop.reset
    demand := { DemandUnit.reset with line := s.demand.line }
    ports := portsAfterReset straps
    settings := loadedSettings s.store
    store := storeAfterReset s.store }

/-- After the load: a failed check raises SETTINGS STORED (R177), the RESTART record is written (R174), every
installed string's node is listed (R162), and the safe-state sequence starts (R151). No claim of the Demand Unit stands
then; the model places the first one at the next event that has the unit judge (assumption 38). -/
def afterLoad (cause : Cause) (s : State) : State :=
  let s := if s.store.defaulted then raise .settingsStored s else s
  startSafe (listInstalled (logWrite (LogRecord.restart 0 cause s.clock) s))

/-- Power-on: retention memory is cleared (R20, R174, R178). -/
def takePowerOn (straps : Straps) (s : State) : State :=
  afterLoad .powerOn
    { blocksReset straps s with
      strings := Vector.replicate 8 StringRecord.powerOn
      log := RoundLog.cleared
      clock := none }

/-- Pin reset, RESTART included: retention memory is kept (R21, R174, R178). -/
def takePinReset (straps : Straps) (s : State) : State :=
  afterLoad .pinRestart
    { blocksReset straps s with strings := s.strings.map StringRecord.pinReset }

end Sys2Proof.Machine
end

