-- ==== Sys2Proof/Machine/Tick.lean ====
section
/-! DEFINITION. The site tick: what it advances, and the events it brings due. An event acts only while it is due;
a tick first takes the events that the one before left due (assumption 8). -/

namespace Sys2Proof.Machine

/-! ### The events a tick brings due -/

/-- A minute (R11, R123): SETTLE strings and an OPEN window count down. -/
def minuteRecord (r : StringRecord) : StringRecord :=
  match r.state with
  | .settle n => { r with state := .settle (n - 1) }
  | _ => r

def takeMinute (s : State) : State :=
  if s.time.minuteDue then
    modPlant (fun w => if w.windowOpen then { w with remaining := w.remaining - 1 } else w)
      { s with
        time := { s.time with minuteDue := false }
        strings := s.strings.map minuteRecord }
  else s

/-- A site hour (R5): the present hours fields of installed strings advance. -/
def hourRecord (installed : Bool) (r : StringRecord) : StringRecord :=
  if installed then
    { r with
      hoursEqualise := r.hoursEqualise.map (satAdd 65535 · 1)
      hoursWater := r.hoursWater.map (satAdd 65535 · 1) }
  else r

def takeHour (s : State) : State :=
  if s.time.hourDue then
    { s with
      time := { s.time with hourDue := false }
      strings := Vector.ofFn fun i => hourRecord s.settings.installed[i] s.strings[i] }
  else s

/-- Settle remaining has reached 0: the string enters FLOAT (R11). -/
def takeSettleEnd (i : StringNo) (s : State) : State :=
  if (recordOf s i).state = .settle 0 then judge (setStringState i .float s) else s

/-- The remaining time of an OPEN window has reached 0 (R123). -/
def takeWindowExpiry (s : State) : State :=
  if s.plant.windowOpen ∧ s.plant.remaining = 0 then closeWindowNow s else s

def takeSweepMatch (s : State) : State :=
  if s.sweep.matchDue then sweepMatched (modSweep (fun w => { w with matchDue := false }) s) else s

def takeScheduleMatch (s : State) : State :=
  if s.schedule.matchDue then traverse { s with schedule := { s.schedule with matchDue := false } }
  else s

/-- The period timer has reached its length. -/
def PeriodTimer.ended (t : PeriodTimer) : Bool := t.running && t.length ≤ t.count

/-- The period timer expires in RAISE or HOLD (R67). -/
def takePeriodExpiry (s : State) : State :=
  match s.eqc.state, openRound s with
  | .raise, some r | .hold, some r => if r.timer.ended then periodExpires r s else s
  | _, _ => s

/-- The period timer expires in PAUSED with LOW ENERGY (R71). -/
def takeStandbyRefresh (s : State) : State :=
  match s.eqc.state, openRound s with
  | .paused, some r =>
    if r.timer.ended && r.pauses.lowEnergy then claimEqualise .refresh (stopTimer s) else s
  | _, _ => s

/-- Pause elapsed has reached the resume limit (R73). -/
def takePauseExpired (s : State) : State :=
  match s.eqc.round.bind Round.pause with
  | some p => if p.expired then decideEqualise (.aborted .pauseExpired) s else s
  | none => s

/-- The dose poll timer has reached 2 s (R108). -/
def takeDosePoll (s : State) : State :=
  match s.wac.state, s.wac.dose with
  | .dose, some d =>
    match d.pollTimer with
    | some t =>
      if Config.dosePollInterval ≤ t then claimWater .dosePoll (setDose { d with pollTimer := none } s)
      else s
    | none => s
  | _, _ => s

/-- Dose elapsed has reached the maximum dose time (R109). -/
def takeMaximumDose (s : State) : State :=
  match s.wac.dose with
  | some d => if d.maxReached then decideWater .timed s else s
  | none => s

/-- The reservoir poll timer has reached 60 s in IDLE with the flag set (R104), and the channel has no other
transaction pending or in flight. -/
def takeReservoirPoll (s : State) : State :=
  match s.wac.pollTimer with
  | some t =>
    if Config.reservoirPollInterval ≤ t ∧ s.wac.state = .idle ∧ s.wac.reservoirLow
        ∧ s.loop.claimWater = none ∧ waterInFlight s = none then
      claimWater .reservoirPoll (modWac (fun w => { w with pollTimer := none }) s)
    else s
  | none => s

def takeStale (s : State) : State :=
  if s.plant.staleDue then staleArises s else s

/-- The release timer has reached the limit (R149, R150). -/
def takeReleaseLimit (s : State) : State :=
  match s.loop.release with
  | .released true => judge (endRelease s)
  | _ => s

/-- The wait of a reconfiguration entry has reached 0 (R158). -/
def takeWaitEnd (i : StringNo) (s : State) : State :=
  if s.demand.list[i] = some 0 then judgeDemand s else s

/-- Every event still due is taken, in the order of the opcode table (assumption 8). -/
def takeDue (s : State) : State :=
  let s := takeMinute (takeHour s)
  let s := (List.finRange 8).foldl (fun acc i => takeSettleEnd i acc) s
  let s := takeScheduleMatch (takeSweepMatch (takeWindowExpiry s))
  let s := takePauseExpired (takeStandbyRefresh (takePeriodExpiry s))
  let s := takeReservoirPoll (takeMaximumDose (takeDosePoll s))
  let s := takeReleaseLimit (takeStale s)
  judgeDemand ((List.finRange 8).foldl (fun acc i => takeWaitEnd i acc) s)

/-! ### What the tick advances -/

/-- The tick count with its marks (R5, R11). -/
def Timebase.tick (t : Timebase) : Timebase :=
  let n := (t.ticks + 1) % Config.ticksPerHour
  { ticks := n
    minuteDue := n % Config.ticksPerMinute = 0
    hourDue := n = 0 }

/-- The temperature age of an installed string (R1, R3). -/
def ageRecord (installed : Bool) (r : StringRecord) : StringRecord :=
  if installed then { r with age := satAdd 65535 r.age 1 } else r

/-- A counter that matches at or above its compare value and returns to 0 (R22, R38). -/
def countMatches (counter compare : Nat) : Bool := compare ≤ counter + 1
def countNext (counter compare : Nat) : Nat := if compare ≤ counter + 1 then 0 else counter + 1

def Sweep.tick (interval : Nat) (w : Sweep) : Sweep :=
  { w with
    counter := countNext w.counter interval
    matchDue := countMatches w.counter interval }

def ScheduleTimer.tick (compare : Nat) (t : ScheduleTimer) : ScheduleTimer :=
  { counter := countNext t.counter compare
    matchDue := countMatches t.counter compare }

/-- The period timer advances while it runs (R67, R71). -/
def PeriodTimer.tick (t : PeriodTimer) : PeriodTimer :=
  if t.running then { t with count := t.count + 1 } else t

/-- Pause elapsed advances while no outcome is decided (R60, R73, R75). -/
def Pause.tick (limit : Nat) (p : Pause) : Pause :=
  let n := satAdd Config.secondsTop p.elapsed 1
  { p with elapsed := n, expired := limit * 60 ≤ n }

def Round.tick (resumeLimit : Nat) (r : Round) : Round :=
  { r with
    ticks := r.ticks + 1
    timer := r.timer.tick
    pause := if r.outcome.isNone then r.pause.map (Pause.tick resumeLimit) else r.pause }

/-- Dose elapsed and the dose poll timer advance in DOSE until the outcome is decided (R108, R109, R111). -/
def Dose.tick (running : Bool) (maxDoseTime : Nat) (d : Dose) : Dose :=
  let d := { d with ticks := d.ticks + 1 }
  if running ∧ d.outcome = none then
    let n := satAdd Config.secondsTop (d.elapsed.getD 0) 1
    { d with
      elapsed := some n
      pollTimer := d.pollTimer.map (· + 1)
      maxReached := maxDoseTime * 60 ≤ n }
  else d

def Eqc.tick (resumeLimit : Nat) (e : Eqc) : Eqc :=
  { e with round := e.round.map (Round.tick resumeLimit) }

def Wac.tick (maxDoseTime : Nat) (w : Wac) : Wac :=
  { w with
    dose := w.dose.map (Dose.tick (w.state = .dose) maxDoseTime)
    pollTimer := w.pollTimer.map (· + 1) }

/-- The age of the plant status record, and whether its passing of the staleness time is handed over: STALE
arises, or no report has come since the reset (R127). -/
def PlantUnit.tick (staleness : Nat) (w : PlantUnit) : PlantUnit :=
  let n := satAdd 65535 w.age 1
  let passed : Bool := staleness < n
  { w with
    age := n
    aged := passed
    staleDue := passed && (!w.stale || (!w.aged && w.report.isNone)) }

/-- The release timer advances in RELEASED, with the limit read at the tick (R149). -/
def Loop.tick (limit : Nat) (l : Loop) : Loop :=
  match l.release with
  | .released _ =>
    let n := satAdd Config.secondsTop l.releaseTimer 1
    { l with release := .released (limit * 60 ≤ n), releaseTimer := n }
  | _ => l

/-- Each wait of the reconfiguration list falls while above 0 (R158). -/
def DemandUnit.tick (d : DemandUnit) : DemandUnit :=
  { d with list := d.list.map (Option.map (· - 1)) }

/-- What one tick advances. -/
def advance (s : State) : State :=
  { s with
    time := s.time.tick
    clock := s.clock.map (· + 1)
    strings := Vector.ofFn fun i => ageRecord s.settings.installed[i] s.strings[i]
    sweep := s.sweep.tick s.settings.sweepInterval
    schedule := s.schedule.tick s.settings.scheduleCompare
    eqc := s.eqc.tick s.settings.resumeLimit
    wac := s.wac.tick s.settings.maxDoseTime
    plant := s.plant.tick s.settings.staleness
    loop := s.loop.tick s.settings.releaseLimit
    demand := s.demand.tick }

/-- The site tick. -/
def takeTick (s : State) : State := advance (takeDue s)

end Sys2Proof.Machine
end

