-- ==== Sys2Proof/Machine/Store.lean ====
section
/-! DEFINITION. The working settings as WRITE SETTING and READ SETTING see them (Table 10.11, R175): identifiers,
ranges, values, the owners' checks and the immediate consequences; and the Settings Store (R176). -/

namespace Sys2Proof.Machine

/-! ### Identifiers (Table 10.11) -/

/-- The recipe parameters in the order of Table 5.3. -/
inductive RecipeParam where
  | vt25 | k | vmax | ilim | imin | approachBand | plateauWindow | plateauTolerance | minHold | maxHold
  | raiseLimit | derateTemp | abortTemp | settleTime | nominalEnergy
deriving DecidableEq, Repr

def RecipeParam.all : List RecipeParam :=
  [.vt25, .k, .vmax, .ilim, .imin, .approachBand, .plateauWindow, .plateauTolerance, .minHold, .maxHold,
   .raiseLimit, .derateTemp, .abortTemp, .settleTime, .nominalEnergy]

/-- The settings that are one number. -/
inductive NumberSetting where
  | sweepInterval | cellDivider | spreadLimit
  | calibration (i : StringNo)
  | defaultRecipe (i : StringNo)
  | scheduleCompare | period | resumeLimit | waterFactor | floatAllowance | dmax | dmin | pumpPower
  | reserve | noFlowTime | maxDoseTime | staleness | releaseLimit | threshold
deriving DecidableEq, Repr

/-- One setting of Table 10.11, named by identifier and index. -/
inductive Setting where
  | number (n : NumberSetting)
  | installed (i : StringNo)
  | schedule (i : Fin 24)
  | loopMap
  | classEntry (m : MemberNo)
  | recipe (r : Fin 4) (p : RecipeParam)
deriving DecidableEq, Repr

/-- An index within a range of `n`. -/
def finOf (n : Nat) (o : Octet) : Option (Fin n) :=
  if h : o.toNat < n then some ⟨o.toNat, h⟩ else none

def site (index : Octet) (n : NumberSetting) : Option Setting :=
  if index = 0 then some (.number n) else none

/-- R175 item 1: the setting an identifier and an index name. -/
def Setting.named (identifier index : Octet) : Option Setting :=
  match identifier.toNat with
  | 0x01 => site index .sweepInterval
  | 0x02 => site index .cellDivider
  | 0x03 => site index .spreadLimit
  | 0x04 => (finOf 8 index).map fun i => .number (.calibration i)
  | 0x05 => (finOf 8 index).map fun i => .number (.defaultRecipe i)
  | 0x06 => (finOf 8 index).map .installed
  | 0x07 => site index .scheduleCompare
  | 0x08 => (finOf 24 index).map .schedule
  | 0x09 => site index .period
  | 0x0A => site index .resumeLimit
  | 0x0B => site index .waterFactor
  | 0x0C => site index .floatAllowance
  | 0x0D => site index .dmax
  | 0x0E => site index .dmin
  | 0x0F => site index .pumpPower
  | 0x10 => site index .reserve
  | 0x11 => site index .noFlowTime
  | 0x12 => site index .maxDoseTime
  | 0x13 => site index .staleness
  | 0x14 => if index = 0 then some .loopMap else none
  | 0x15 => (finOf 10 index).map .classEntry
  | 0x16 => site index .releaseLimit
  | 0x17 => site index .threshold
  | n =>
    if 0x20 ≤ n ∧ n ≤ 0x2E then
      match RecipeParam.all[n - 0x20]?, finOf 4 index with
      | some p, some r => some (.recipe r p)
      | _, _ => none
    else none

/-! ### Numbers: ranges, widths, reading and writing -/

/-- The ranges of the parameter tables. -/
def NumberSetting.range : NumberSetting → Int × Int
  | .sweepInterval => (10, 600)
  | .cellDivider => (1, 20)
  | .spreadLimit => (20, 500)
  | .calibration _ => (-50, 50)
  | .defaultRecipe _ => (0, 3)
  | .scheduleCompare => (60, 65535)
  | .period => (5, 60)
  | .resumeLimit => (10, 720)
  | .waterFactor => (100, 600)
  | .floatAllowance => (0, 500)
  | .dmax => (100, 10000)
  | .dmin => (0, 500)
  | .pumpPower => (0, 500)
  | .reserve => (0, 1000)
  | .noFlowTime => (10, 120)
  | .maxDoseTime => (1, 30)
  | .staleness => (60, 600)
  | .releaseLimit => (1, 60)
  | .threshold => (300, 600)

/-- The settings carried in one octet (Table 10.11); the others take two. -/
def NumberSetting.single : NumberSetting → Bool
  | .cellDivider | .defaultRecipe _ | .period | .noFlowTime | .maxDoseTime | .releaseLimit => true
  | _ => false

def NumberSetting.get (t : Settings) : NumberSetting → Int
  | .sweepInterval => t.sweepInterval
  | .cellDivider => t.cellDivider
  | .spreadLimit => t.spreadLimit
  | .calibration i => t.calibration[i]
  | .defaultRecipe i => (t.defaultRecipe[i]).val
  | .scheduleCompare => t.scheduleCompare
  | .period => t.period
  | .resumeLimit => t.resumeLimit
  | .waterFactor => t.waterFactor
  | .floatAllowance => t.floatAllowance
  | .dmax => t.dmax
  | .dmin => t.dmin
  | .pumpPower => t.pumpPower
  | .reserve => t.reserve
  | .noFlowTime => t.noFlowTime
  | .maxDoseTime => t.maxDoseTime
  | .staleness => t.staleness
  | .releaseLimit => t.releaseLimit
  | .threshold => t.threshold

def NumberSetting.set (t : Settings) (x : Int) : NumberSetting → Settings
  | .sweepInterval => { t with sweepInterval := x.toNat }
  | .cellDivider => { t with cellDivider := x.toNat }
  | .spreadLimit => { t with spreadLimit := x.toNat }
  | .calibration i => { t with calibration := t.calibration.set i x }
  | .defaultRecipe i => { t with defaultRecipe := t.defaultRecipe.set i (Fin.ofNat 4 x.toNat) }
  | .scheduleCompare => { t with scheduleCompare := x.toNat }
  | .period => { t with period := x.toNat }
  | .resumeLimit => { t with resumeLimit := x.toNat }
  | .waterFactor => { t with waterFactor := x.toNat }
  | .floatAllowance => { t with floatAllowance := x.toNat }
  | .dmax => { t with dmax := x.toNat }
  | .dmin => { t with dmin := x.toNat }
  | .pumpPower => { t with pumpPower := x.toNat }
  | .reserve => { t with reserve := x.toNat }
  | .noFlowTime => { t with noFlowTime := x.toNat }
  | .maxDoseTime => { t with maxDoseTime := x.toNat }
  | .staleness => { t with staleness := x.toNat }
  | .releaseLimit => { t with releaseLimit := x.toNat }
  | .threshold => { t with threshold := x.toNat }

/-- The number that the value octets carry, where their length is the setting's (Table 10.11: signed where the
range includes negative values). -/
def numberValue (single signed : Bool) (value : List Octet) : Option Int :=
  match single, value with
  | true, [a] => some a.toNat
  | false, [a, b] => some (if signed then (halfOf a b).toInt else (halfOf a b).toNat)
  | _, _ => none

def inRange (r : Int × Int) (x : Int) : Bool := r.1 ≤ x && x ≤ r.2

/-! ### Recipes (R86) -/

/-- The ranges of Table 5.3. -/
def RecipeParam.range : RecipeParam → Int × Int
  | .vt25 => (2300, 2550)
  | .k => (-60, 0)
  | .vmax => (2400, 2600)
  | .ilim => (10, 1500)
  | .imin => (5, 200)
  | .approachBand => (5, 50)
  | .plateauWindow => (10, 120)
  | .plateauTolerance => (0, 50)
  | .minHold => (30, 600)
  | .maxHold => (60, 1440)
  | .raiseLimit => (30, 720)
  | .derateTemp => (300, 550)
  | .abortTemp => (350, 550)
  | .settleTime => (0, 240)
  | .nominalEnergy => (0, 20000)

def RecipeParam.get (rc : Recipe) : RecipeParam → Int
  | .vt25 => rc.vt25
  | .k => rc.k
  | .vmax => rc.vmax
  | .ilim => rc.ilim
  | .imin => rc.imin
  | .approachBand => rc.approachBand
  | .plateauWindow => rc.plateauWindow
  | .plateauTolerance => rc.plateauTolerance
  | .minHold => rc.minHold
  | .maxHold => rc.maxHold
  | .raiseLimit => rc.raiseLimit
  | .derateTemp => rc.derateTemp
  | .abortTemp => rc.abortTemp
  | .settleTime => rc.settleTime
  | .nominalEnergy => rc.nominalEnergy

def RecipeParam.set (rc : Recipe) (x : Int) : RecipeParam → Recipe
  | .vt25 => { rc with vt25 := x.toNat }
  | .k => { rc with k := x }
  | .vmax => { rc with vmax := x.toNat }
  | .ilim => { rc with ilim := x.toNat }
  | .imin => { rc with imin := x.toNat }
  | .approachBand => { rc with approachBand := x.toNat }
  | .plateauWindow => { rc with plateauWindow := x.toNat }
  | .plateauTolerance => { rc with plateauTolerance := x.toNat }
  | .minHold => { rc with minHold := x.toNat }
  | .maxHold => { rc with maxHold := x.toNat }
  | .raiseLimit => { rc with raiseLimit := x.toNat }
  | .derateTemp => { rc with derateTemp := x.toNat }
  | .abortTemp => { rc with abortTemp := x.toNat }
  | .settleTime => { rc with settleTime := x.toNat }
  | .nominalEnergy => { rc with nominalEnergy := x.toNat }

/-- R86 order 2: maximum hold not below minimum hold, and Imin not above Ilim. -/
def Recipe.consistent (rc : Recipe) : Bool :=
  rc.minHold ≤ rc.maxHold && rc.imin ≤ rc.ilim

/-- R86 order 3: the Equalise Channel holds a round context of this recipe. -/
def recipeLocked (s : State) (r : Fin 4) : Bool :=
  match s.eqc.round with
  | some x => x.recipeNo = r
  | none => false

/-! ### Schedule entries (R39) -/

/-- The EQUALISE fields of a write: a field not given keeps the old EQUALISE entry's (assumption 25); a write that
changes the kind must give both. -/
def equaliseWork (old : ScheduleWork) (recipe : Option Nat) (trigger : Option Nat) : Option ScheduleWork :=
  match old, recipe, trigger with
  | _, some r, some t => if h : r < 4 then (if t ≤ 10000 then some (.equalise ⟨r, h⟩ t) else none) else none
  | .equalise _ t, some r, none => if h : r < 4 then some (.equalise ⟨r, h⟩ t) else none
  | .equalise r _, none, some t => if t ≤ 10000 then some (.equalise r t) else none
  | .equalise r t, none, none => some (.equalise r t)
  | .water _, _, _ => none

/-- The WATER field of a write. -/
def waterWork (old : ScheduleWork) (limit : Option Nat) : Option ScheduleWork :=
  match old, limit with
  | _, some n => if 1 ≤ n ∧ n ≤ 10000 then some (.water n) else none
  | .water n, none => some (.water n)
  | .equalise _ _, none => none

def given (b : Bool) (n : Nat) : Option Nat := if b then some n else none

/-- A written schedule entry (R39, Table 10.11): none for a write refused RANGE. -/
def scheduleEntryOf (old : ScheduleEntry) (value : List Octet) : Option ScheduleEntry :=
  match value with
  | [en, kind, str, pres, rec, d1, d2, i1, i2, t1, t2] =>
    let interval := (halfOf i1 i2).toNat
    if en.toNat ≤ 1 ∧ kind.toNat ≤ 1 ∧ pres.toNat ≤ 7 ∧ 1 ≤ interval ∧ interval ≤ 4000 then
      let work :=
        if kind = 0 then
          equaliseWork old.work (given (pres.getLsbD 0) rec.toNat)
            (given (pres.getLsbD 2) (halfOf t1 t2).toNat)
        else waterWork old.work (given (pres.getLsbD 1) (halfOf d1 d2).toNat)
      match finOf 8 str, work with
      | some s, some w => some { enabled := en = 1, work := w, string := s, interval := interval }
      | _, _ => none
    else none
  | _ => none

/-- The value octets of a schedule entry. -/
def scheduleEntryOctets (e : ScheduleEntry) : List Octet :=
  let head (kind pres : Nat) : List Octet :=
    encFlag e.enabled ++ enc1 kind ++ enc1 e.string.val ++ enc1 pres
  match e.work with
  | .equalise r t => head 0 5 ++ enc1 r.val ++ enc2 0 ++ enc2 e.interval ++ enc2 t
  | .water n => head 1 2 ++ enc1 0 ++ enc2 n ++ enc2 e.interval ++ enc2 0

/-! ### Map and classes (R136, R137) -/

/-- All ten positions, every address 0 to 9 once (R136). -/
def loopMapOf (value : List Octet) : Option (Vector MemberNo 10) :=
  match value.map (finOf 10) with
  | [some a, some b, some c, some d, some e, some f, some g, some h, some i, some j] =>
    let l := [a, b, c, d, e, f, g, h, i, j]
    if l.Nodup then some #v[a, b, c, d, e, f, g, h, i, j] else none
  | _ => none

def AccessClass.place : AccessClass → Nat
  | .f => 0
  | .h => 1
  | .fh => 2
  | .a => 3

def classOf (o : Octet) : Option AccessClass :=
  match o.toNat with
  | 0 => some .f
  | 1 => some .h
  | 2 => some .fh
  | 3 => some .a
  | _ => none

/-- A class entry (Tables 8.2 and 10.11). -/
def classEntryOf (value : List Octet) : Option ClassEntry :=
  match value with
  | [c, d, h] =>
    match classOf c with
    | some cls =>
      if d.toNat ≤ 250 ∧ 1 ≤ h.toNat ∧ h.toNat ≤ 20 then
        some { cls := cls, delay := d.toNat, holdLimit := h.toNat }
      else none
    | none => none
  | _ => none

/-! ### WRITE SETTING (R175) -/

/-- The uninstall check of R17. -/
def uninstallLocked (s : State) (i : StringNo) : Bool :=
  !((recordOf s i).state = .float || (recordOf s i).state.barCause.isSome)
    || s.queue.any (fun e => e.string = i) || s.eqc.attachment.holds i || s.wac.valve.holds i

/-- What the owner's checks give: a refusal, or the settings written. -/
inductive Judged where
  | refused (st : Status)
  | taken (t : Settings)
deriving DecidableEq, Repr

/-- A value outside the range is refused RANGE, else the settings are written. -/
def rangeJudged (t : Option Settings) : Judged :=
  match t with
  | some t => .taken t
  | none => .refused .range

/-- The owner's checks (R17, R39, R86, R136 and the ranges of the parameter tables). -/
def judgeWrite (s : State) (x : Setting) (value : List Octet) : Judged :=
  let t := s.settings
  match x with
  | .number n =>
    rangeJudged (((numberValue n.single (n.range.1 < 0) value).filter (inRange n.range)).map fun v => n.set t v)
  | .installed i =>
    match value with
    | [o] =>
      if 1 < o.toNat then .refused .range
      else if o = 0 ∧ t.installed[i] ∧ uninstallLocked s i then .refused .locked
      else .taken { t with installed := t.installed.set i (o = 1) }
    | _ => .refused .range
  | .schedule i =>
    rangeJudged ((scheduleEntryOf t.schedule[i] value).map fun e => { t with schedule := t.schedule.set i e })
  | .loopMap => rangeJudged ((loopMapOf value).map fun m => { t with loopMap := m })
  | .classEntry m =>
    rangeJudged ((classEntryOf value).map fun c => { t with classes := t.classes.set m c })
  | .recipe r p =>
    match (numberValue false true value).filter (inRange p.range) with
    | none => .refused .range
    | some v =>
      let rc := p.set t.recipes[r] v
      if !rc.consistent then .refused .range
      else if recipeLocked s r then .refused .locked
      else .taken { t with recipes := t.recipes.set r rc }

/-- A lowered Dmax lowers the limits of queued WATER entries and of the running dose (R45, R109). -/
def lowerLimits (dmax : Nat) (s : State) : State :=
  modDose (fun d => { d with limit := min d.limit dmax })
    { s with queue := s.queue.map fun e =>
        match e.work with
        | .water n => { e with work := .water (min n dmax) }
        | .equalise _ => e }

/-- The immediate consequences of a write taken (R45, R109, R158). -/
def consequences (before : Settings) (x : Setting) (s : State) : State :=
  match x with
  | .number .dmax => if s.settings.dmax < before.dmax then lowerLimits s.settings.dmax s else s
  | .number .threshold => judgeDemand (listInstalled s)
  | .installed i =>
    if s.settings.installed[i] && !before.installed[i] then judgeDemand (setWait i (some 0) s) else s
  | _ => s

/-- R175 item 3: the settings take the value and the modified mark is set. -/
def takeWrite (x : Setting) (t : Settings) (s : State) : State :=
  consequences s.settings x { s with settings := t, store := { s.store with modified := true } }

/-- WRITE SETTING (R175): the owner's checks, then BUSY while STORING. -/
def writeSetting (identifier index : Octet) (value : List Octet) (s : State) : State × Status :=
  match Setting.named identifier index with
  | none => (s, .range)
  | some x =>
    match judgeWrite s x value with
    | .refused st => (s, st)
    | .taken t => if s.store.storing then (s, .busy) else (takeWrite x t s, .done)

/-! ### READ SETTING (R175) -/

/-- The value octets of a setting (Table 10.11). -/
def settingOctets (t : Settings) : Setting → List Octet
  | .number n => if n.single then enc1 (n.get t).toNat else enc2i (n.get t)
  | .installed i => encFlag t.installed[i]
  | .schedule i => scheduleEntryOctets t.schedule[i]
  | .loopMap => t.loopMap.toList.map fun m => BitVec.ofNat 8 m.val
  | .classEntry m =>
    enc1 (t.classes[m]).cls.place ++ enc1 (t.classes[m]).delay ++ enc1 (t.classes[m]).holdLimit
  | .recipe r p => enc2i (p.get t.recipes[r])

/-! ### STORE SETTINGS (R176) -/

/-- The rewrite begins (R176): the copy is made, and its check does not hold until completion. The copy stands whole from
here on, behind the failed check of a rewrite that a reset cuts short too, by the model's choice: R176 has it partly
written there (assumption 54). -/
def beginStore (s : State) : State :=
  { s with store := { s.store with copy := s.settings, checkHolds := false, storing := true } }

/-- The rewrite completes (R176). -/
def takeStoreComplete (s : State) : State :=
  if s.store.storing then
    raise .settingsStored
      { s with store :=
          { s.store with checkHolds := true, storing := false, modified := false, defaulted := false } }
  else s

end Sys2Proof.Machine
end

