-- ==== Sys2Proof/Machine/Replies.lean ====
section
/-! DEFINITION. What the reading requests return (R18, R57, R83, R121, R132, R133, R153, R160, R161, R169, R173): the
fields of the owner's list in its order, encoded as Table 10.13 gives (assumption 27). -/

namespace Sys2Proof.Machine

/-! ### Codes of named values (Tables 10.8 and 10.9, else the place in the owner's list) -/

/-- An entry's kind as Table 10.10 and bit 5 of Table 10.9 give it, where Table 10.9 has other codes for the record kinds of
the same names: the model's choice (assumption 27). -/
def Kind.place : Kind → Nat
  | .equalise => 0
  | .water => 1

def Urgency.place : Urgency → Nat
  | .normal => 0
  | .urgent => 1

def Origin.code : Origin → Nat
  | .schedule => 1
  | .sweep => 2
  | .demand => 3
  | .request => 4
  | .followOn => 5

def OutcomeName.code : OutcomeName → Nat
  | .finished => 1
  | .timed => 2
  | .aborted => 3
  | .cancelled => 4
  | .delivered => 5
  | .full => 6
  | .stopped => 7

def Cause.code : Cause → Nat
  | .noRise => 0x01
  | .overvoltage => 0x02
  | .overTemp => 0x03
  | .discharge => 0x04
  | .pauseExpired => 0x05
  | .boostLost => 0x06
  | .boostFault => 0x07
  | .nodeRestart => 0x08
  | .nodeLost => 0x09
  | .barred => 0x0A
  | .noAttach => 0x0B
  | .valveFault => 0x0C
  | .pumpLost => 0x0D
  | .flowLeak => 0x0E
  | .request => 0x0F
  | .powerOn => 0x10
  | .pinRestart => 0x11
  | .closeFailed => 0x12
  | .detachFailed => 0x13

/-- BY REQUEST has no code in Table 10.9 and takes its place in Table 1.2; the others have. -/
def BarCause.code : BarCause → Nat
  | .byRequest => 0x00
  | .nodeLost => 0x09
  | .valveFault => 0x0C
  | .detachFailed => 0x13
  | .closeFailed => 0x12

/-- A string's state by its place in Table 1.2. The model's choice where Table 10.9 gives the name a code as another kind
of value: EQUALISE and WATER as record kinds, BARRED as a cause (assumption 27). -/
def StringState.place : StringState → Nat
  | .float => 0
  | .equalise _ => 1
  | .settle _ => 2
  | .water _ => 3
  | .barred _ => 4

def Holder.place : Holder → Nat
  | .none => 0
  | .eqc => 1
  | .wac => 2

def EqcState.code : EqcState → Nat
  | .idle => 0
  | .connect => 1
  | .raise => 2
  | .hold => 3
  | .paused => 4
  | .detach => 5
  | .fault => 6

def WacState.code : WacState → Nat
  | .idle => 0
  | .open => 1
  | .pump => 2
  | .dose => 3
  | .stop => 4
  | .close => 5
  | .fault => 6

def PumpRecord.place : PumpRecord → Nat
  | .off => 0
  | .onConfirmed => 1
  | .onUnconfirmed => 2

/-- A phase by its place, where Table 10.9 has other codes for the channel states of the same names: the model's choice
(assumption 27). -/
def Phase.place : Phase → Nat
  | .raise => 0
  | .hold => 1

def Release.place : Release → Nat
  | .free => 0
  | .pending => 1
  | .released _ => 2
  | .safeState _ _ => 3

def Slot.place : Slot → Nat
  | .empty => 0
  | .waiting _ _ => 1
  | .inFlight => 2
  | .done _ => 3

def PollState.place : PollState → Nat
  | .idle => 0
  | .spacing => 1
  | .claimed => 2
  | .inFlight => 3

/-- A transaction's outcome by its place, FAULT too, which Table 10.9 has as a channel state: the model's choice
(assumption 27). -/
def TxOutcome.place : TxOutcome → Nat
  | .answer _ => 0
  | .fault _ => 1
  | .holdExhausted => 2
  | .noAnswer => 3
  | .lineFault => 4

def RecordKind.code : RecordKind → Nat
  | .equalise => 1
  | .water => 2
  | .cancelled => 3
  | .displaced => 4
  | .restart => 5

/-! ### Shared fields -/

/-- The site clock, or a stamp of it. -/
def stampField (t : Option Quad) : Field := .optional (t.map octetsOfQuad) 4

def octetField (n : Option Nat) : Field := .optional (n.map enc1) 1
def pairField (n : Option Nat) : Field := .optional (n.map enc2) 2
def flagField (b : Option Bool) : Field := .optional (b.map encFlag) 1

/-- The string a link record names, and whether it is confirmed: two fields with a presence bit each, 01h for confirmed and
00h for unconfirmed, by the model's choice (assumption 27). -/
def linkFields (l : LinkRecord) : List Field :=
  match l with
  | .empty => [octetField none, flagField none]
  | .names i c => [octetField (some i.val), flagField (some c)]

/-- Outcome and cause, the cause octet 00h for none (Table 10.9). -/
def outcomeOctets (o : OutcomeName) (c : Option Cause) : List Octet :=
  enc1 o.code ++ enc1 ((c.map Cause.code).getD 0)

def eqOutcomeField (o : Option EqOutcome) : Field :=
  .optional (o.map fun x => outcomeOctets x.name x.cause) 2

def waterOutcomeField (o : Option WaterOutcome) : Field :=
  .optional (o.map fun x => outcomeOctets x.name x.cause) 2

/-! ### READ STRING (R18) -/

/-- A list is sent as its count and its items (10.5); 24 cells make 49 octets. -/
def cellsField (cells : Option (Vector Nat 24)) : Field :=
  .optional (cells.map fun v => encList (v.toList.map enc2)) 49

def lastWaterField (o : Option (WaterOutcome × Nat)) : Field :=
  .optional (o.map fun x => outcomeOctets x.1.name x.1.cause ++ enc2 x.2) 4

/-- The reply of READ STRING (R18). R18 gives the latest readings no order of their own; the model's is voltage,
current, temperature, temperature age, level. It sends bar cause and pending bar as two fields that may be absent, and
cell spread and cell list as two more, each with a presence bit of its own (assumption 27). -/
def stringResults (i : StringNo) (s : State) : List Octet :=
  let r := recordOf s i
  results [
    .always (encFlag (isInstalled s i)),
    .always (enc1 r.state.place),
    .always (enc1 r.state.holder.place),
    octetField (r.state.barCause.map BarCause.code),
    octetField (r.state.pendingBar.map BarCause.code),
    .always (enc2 r.state.remaining),
    .always (encFlag (isPresent s (nodeOf i))),
    .always (enc2 r.voltage),
    .always (enc2i r.current),
    .always (enc2i r.temperature),
    .always (enc2 r.age),
    .always (encFlag r.levelLow),
    pairField r.spread,
    cellsField r.cells,
    .always (enc4 r.throughput),
    pairField r.hoursEqualise,
    pairField r.hoursWater,
    .always (enc4 r.waterTotal),
    eqOutcomeField r.lastEqualise,
    lastWaterField r.lastWater]

/-! ### READ ROUNDS: the queue (R57) -/

/-- The recipe or the dose limit, each as its kind of value is encoded: the model sends the one the entry has, with no
presence bit, in R57's list and in R50's reply (assumption 27). -/
def workOctets (w : Work) : List Octet :=
  match w with
  | .equalise r => enc1 r.val
  | .water n => enc2 n

/-- An entry's place in a list of entries, 1 being the head. -/
def placeIn (e : QueueEntry) (l : List QueueEntry) : Nat :=
  l.findIdx (fun x => x.same e.kind e.string) + 1

/-- Eligible for its channel now, judged by R54 or R55 without the reservoir check. -/
def eligibleNow (s : State) (e : QueueEntry) : Bool :=
  eligibleEqualise s e || eligibleWater s e

def entryOctets (s : State) (e : QueueEntry) : List Octet :=
  enc1 e.kind.place ++ enc1 e.string.val ++ enc1 e.urgency.place ++ enc1 e.origin.code
    ++ workOctets e.work ++ enc1 (placeIn e s.queue) ++ encFlag (eligibleNow s e)

/-- The queue part of READ ROUNDS (R57). R57 names both the list and the number of entries, and a list opens with its
count: the model sends one count octet for both (assumption 27). -/
def queueResults (s : State) : List Octet :=
  encList ((queueOrder s.queue).map (entryOctets s))

/-! ### READ ROUNDS: the Equalise Channel (R83) -/

/-- A pause STANDBY is pending or in flight. -/
def pauseStandbyOut (s : State) : Bool :=
  s.loop.claimEqualise = some .pauseStandby || equaliseInFlight s = some .pauseStandby

def pauseSetOctets (p : PauseSet) : List Octet :=
  encSet [p.windowClosed, p.stale, p.held, p.lowEnergy, p.loopRelease]

def setpointOctets (sp : Setpoint) : List Octet := enc2 sp.target ++ enc2 sp.perm

def equaliseResults (s : State) : List Octet :=
  let e := s.eqc
  let r := e.round
  let driving := e.state = .raise ∨ e.state = .hold
  results ([
    .always (enc1 e.state.code),
    flagField (if driving then some (pauseStandbyOut s) else none)] ++ linkFields e.attachment ++ [
    pairField (r.map (·.number.toNat)),
    octetField (r.map (·.string.val)),
    octetField (r.map (·.recipeNo.val)),
    octetField (r.map (·.origin.code)),
    stampField (r.bind (·.start)),
    .optional (r.map fun x => pauseSetOctets x.pauses) 2,
    octetField ((r.bind (·.pause)).map (·.phase.place)),
    pairField ((r.bind (·.pause)).map (·.elapsed)),
    pairField (r.map (·.raiseElapsed)),
    pairField (r.map (·.holdElapsed)),
    octetField (r.map (·.failures)),
    pairField ((r.bind (·.acct.lastFresh)).map (·.vs)),
    eqOutcomeField (r.bind (·.outcome)),
    .optional ((r.bind (·.acct.sent)).map setpointOctets) 4,
    .optional (r.map fun x => enc4i (chargeReported x.acct)) 4,
    .optional (r.map fun x => enc4 (overchargeReported x.acct)) 4,
    .optional (r.map fun x => enc4 (energyReported x.acct)) 4,
    octetField (r.map (·.acct.plateau)),
    flagField (if e.state = .fault then some e.clear else none)])

/-! ### READ ROUNDS: the Water Channel (R121) -/

/-- The channel in FAULT holds a string (R112, R117). -/
def wacHolds (s : State) : Bool :=
  (List.finRange 8).any fun i => (recordOf s i).state.holder = .wac

def waterResults (s : State) : List Octet :=
  let w := s.wac
  let d := w.dose
  let fault := w.state = .fault
  results ([
    .always (enc1 w.state.code),
    flagField (if w.state = .idle then some w.check.isSome else none)] ++ linkFields w.valve ++ [
    .always (enc1 w.pump.place),
    .always (encFlag w.reservoirLow),
    pairField w.reservoir,
    pairField (d.map (·.number.toNat)),
    octetField (d.map (·.string.val)),
    pairField (d.map (·.limit)),
    octetField (d.map (·.origin.code)),
    stampField (d.bind (·.start)),
    pairField (d.map (·.delivered)),
    pairField (d.bind (·.elapsed)),
    pairField (d.bind (·.lastChange)),
    flagField (d.bind (·.flowActive)),
    waterOutcomeField (d.bind (·.outcome)),
    flagField (if fault then some w.clear else none),
    flagField (if fault then some (wacHolds s) else none)])

/-! ### READ ROUNDS: the site (R133), and the forecast (R132) -/

/-- The window record: state, budget, remaining time. -/
def windowOctets (w : PlantUnit) : List Octet :=
  encFlag w.windowOpen ++ enc2 w.budget ++ enc2 w.remaining

/-- The site conditions standing, in the order of Table 7.1. -/
def conditionsOctets (w : PlantUnit) : List Octet :=
  encSet [!w.windowOpen, w.discharge, w.stale, w.hold]

def siteResults (s : State) : List Octet :=
  let w := s.plant
  results [
    .always (windowOctets w),
    flagField (w.report.map (·.discharge)),
    pairField (w.report.map (·.busVoltage)),
    pairField (w.report.map (·.load)),
    .optional (w.report.map fun r => enc2i r.headroom) 2,
    .always (enc2 w.age),
    .always (encFlag w.report.isSome),
    .always (encFlag w.hold),
    .always (conditionsOctets w),
    .always (encFlag w.windowNeeded)]

/-- The record as a PLANT STATUS has just written it (R126): no field is absent. -/
def plantResults (w : PlantUnit) : List Octet :=
  match w.report with
  | some r =>
    encFlag r.discharge ++ enc2 r.busVoltage ++ enc2 r.load ++ enc2i r.headroom ++ enc2 w.age
      ++ encFlag true
  | none => []

def forecastResults (s : State) : List Octet :=
  let entries := s.queue.filter (fun e => e.kind = .equalise)
  enc1 entries.length ++ enc1 (entries.filter QueueEntry.urgent).length ++ encFlag s.eqc.round.isSome
    ++ enc4 (energyEstimate s) ++ windowOctets s.plant ++ encFlag s.plant.windowNeeded

/-! ### READ ROUNDS: the loop (R153) -/

/-- The claimant of the transaction in flight: the level's place in R144's list from 00h. For the safe-state
sequence, which is no claimant level, a free value (assumption 7). A raw exchange is shown as a pass-through, by the
model's choice (assumption 37). -/
def claimantOctet (s : State) : Option (List Octet) :=
  s.loop.inFlight.map fun x =>
    match x with
    | .poll _ => enc1 1
    | .raw _ => enc1 5
    | .transaction t =>
      match t.claimant with
      | .reconfiguration _ => enc1 1
      | .sweep _ => enc1 2
      | .water _ => enc1 3
      | .equalise _ => enc1 4
      | .slot _ => enc1 5
      | .safeState _ => [Config.safeStateClaimant]

def Slot.waits : Slot → Bool
  | .waiting _ _ => true
  | _ => false

/-- The levels that hold a pending claim (R144, R153). A TAKE LOOP recorded in SAFE-STATE is shown as none of level 1, by the
model's choice (assumption 43). -/
def pendingLevels (s : State) : List Octet :=
  let l := s.loop
  encSet [l.release = .pending, l.claimDemand.isSome, l.claimSweep.isSome, l.claimWater.isSome,
    l.claimEqualise.isSome, l.serviceSlot.waits || l.plantSlot.waits]

/-- One member's loop position, presence and failure count. The members come in the order of their addresses, in a list
with its count, by the model's choice (assumption 27). -/
def memberOctets (s : State) (m : MemberNo) : List Octet :=
  enc1 (s.settings.loopMap.toList.findIdx (· = m)) ++ encFlag s.loop.present[m]
    ++ enc1 s.loop.failures[m]

/-- The release time elapsed, present in RELEASED. -/
def releaseElapsed (l : Loop) : Option Nat :=
  match l.release with
  | .released _ => some l.releaseTimer
  | _ => none

/-- The loop part of READ ROUNDS (R153), the Plant slot's state before the Service slot's by the model's choice
(assumption 27). -/
def loopResults (s : State) : List Octet :=
  results [
    .always (enc1 s.loop.release.place),
    pairField (releaseElapsed s.loop),
    pairField ((releaseElapsed s.loop).map fun _ => s.settings.releaseLimit),
    .always (encList ((List.finRange 10).map (memberOctets s))),
    .optional (claimantOctet s) 1,
    .always (pendingLevels s),
    .always (enc1 s.loop.plantSlot.place),
    .always (enc1 s.loop.serviceSlot.place)]

/-! ### READ ROUNDS: the demands (R161), and READ DEMANDS (R160) -/

/-- Each address in the reconfiguration list with its wait. -/
def listOctets (s : State) : List Octet :=
  encList ((List.finRange 8).filterMap fun i => (s.demand.list[i]).map fun w => enc1 i.val ++ enc2 w)

/-- The demand part of READ ROUNDS (R161). The model's choices (assumption 27): 01h for an asserted line, and one presence
bit for the address and the kind of the confirmation owed. -/
def demandResults (s : State) : List Octet :=
  let d := s.demand
  results [
    .always (encFlag d.line),
    .always (enc1 d.poll.place),
    .always (enc1 d.failures),
    .optional (d.owed.map fun x => enc1 x.1.val ++ [x.2.code]) 2,
    .always (listOctets s),
    .always (enc1 d.fifo.length),
    .always (encFlag d.overflow),
    .always (enc1 d.dropped)]

def fifoFields (e : FifoEntry) : List Field :=
  [.always e.word.octets, stampField e.time]

/-- The reply of READ DEMANDS with the FIFO as the removal leaves it: what was taken, then what remains. R160 names
both the number returned and the entries, and a list opens with its count: the model sends one count octet for both
(assumption 27). -/
def readDemandsResults (taken : List FifoEntry) (d : DemandUnit) : List Octet :=
  results ([.always (enc1 taken.length)] ++ taken.flatMap fifoFields ++ [
    .always (enc1 d.fifo.length), .always (encFlag d.overflow), .always (enc1 d.dropped)])

/-! ### Notices (R169) -/

def noticeOctets (n : NoticeSet) : List Octet := octetsOfHalf (n.setWidth 16)

/-- The two sets of the port and the two details (R33, R169), the string and the spread of CELL ALARM with a presence bit
each, by the model's choice (assumption 27). -/
def noticesResults (p : Port) (s : State) : List Octet :=
  let u := s.ports.get p
  results [
    .always (noticeOctets u.pending),
    .always (noticeOctets u.enabled),
    octetField (s.sweep.alarm.map (·.1.val)),
    pairField (s.sweep.alarm.map (·.2)),
    .always (encFlag s.sweep.late),
    .always (encFlag s.store.defaulted)]

/-! ### The Round Log (Table 10.9, R173) -/

/-- A number of bits set in a status word. -/
def bitAt (b : Bool) (n : Nat) : Nat := if b then 2 ^ n else 0

def summaryWord (x : StatusSummary) : Nat :=
  bitAt x.discharge 0 + bitAt x.stale 1 + bitAt x.held 2 + bitAt x.windowOpen 3 + x.eqc.code * 16
    + x.wac.code * 128 + bitAt x.reservoirLow 10

def presenceNotes (r : LogRecord) : Nat :=
  bitAt r.number.isSome 0 + bitAt r.string.isSome 1 + bitAt r.start.isSome 2 + bitAt r.spread.isSome 3
    + bitAt r.belowMinimum 4 + bitAt (r.entryKind = some .water) 5

/-- The 32 octets of a record (Table 10.9). -/
def LogRecord.octets (r : LogRecord) : List Octet :=
  octetsOfHalf r.sequence ++ enc1 r.kind.code ++ enc1 (presenceNotes r) ++ octetsOfHalf (r.number.getD 0)
    ++ enc1 ((r.string.map Fin.val).getD 0) ++ enc1 ((r.origin.map Origin.code).getD 0)
    ++ enc1 ((r.outcome.map OutcomeName.code).getD 0) ++ enc1 ((r.cause.map Cause.code).getD 0)
    ++ octetsOfQuad (r.start.getD 0) ++ octetsOfHalf r.duration ++ enc2i r.charge ++ enc2 r.overcharge
    ++ enc2 r.energy ++ enc2i r.peak ++ enc2 (r.spread.getD 0) ++ enc2 r.dose ++ enc2 r.delivered
    ++ enc2 (summaryWord r.summary)

/-- The record with the write position, the four segment-full flags and the overrun set (R173). The overrun flag of R172 is
sent as that set, which is not empty exactly while the flag is set: the model's choice (assumption 27). -/
def recordResults (r : LogRecord) (l : RoundLog) : List Octet :=
  r.octets ++ enc1 l.position.val ++ l.full.toList.flatMap encFlag ++ encSet l.overrun.toList

/-! ### LOOP RESULT (R146, R149) -/

/-- The result a done slot holds: outcome, error code, reply data; LOCKED as its status octet; a raw exchange as its
octets and the mark of a spoiled character, in that order by the model's choice (assumption 27). Table 10.13 gives the reply
data no fixed width: an absent error code and absent reply data are sent as one octet 00h each, after LOCKED both, by the
model's choice too (assumption 27). -/
def slotResults (r : SlotResult) : List Octet :=
  match r with
  | .locked => results [.always [Status.locked.code], octetField none, .optional none 1]
  | .raw octets spoiled => enc1 octets.length ++ octets ++ encFlag spoiled
  | .outcome o =>
    let error := match o with | .fault c => some [c] | _ => none
    let data := match o with | .answer d => some (enc1 d.length ++ d) | _ => none
    results [.always (enc1 o.place), .optional error 1, .optional data 1]

/-! ### REQUEST ROUND (R50) -/

/-- The entry as it stands after the post: urgency, recipe or dose limit, place in queue order. -/
def postedResults (k : Kind) (i : StringNo) (s : State) : List Octet :=
  match findEntry k i s.queue with
  | some e => enc1 e.urgency.place ++ workOctets e.work ++ enc1 (placeIn e (queueOrder s.queue))
  | none => []

end Sys2Proof.Machine
end

