-- ==== Sys2Proof/Machine/Requests.lean ====
section
/-! DEFINITION. The owners' judgement of each request (Table 10.3; R165 step 3): the state it leaves, the status and
the results of the reply. -/

namespace Sys2Proof.Machine

/-- What an owner answers. -/
structure Answer where
  state : State
  status : Status
  results : List Octet
deriving DecidableEq, Repr

def refuse (st : Status) (s : State) : Answer := { state := s, status := st, results := [] }
def done (s : State) : Answer := { state := s, status := .done, results := [] }
def accepted (s : State) : Answer := { state := s, status := .accepted, results := [] }
def doneWith (r : List Octet) (s : State) : Answer := { state := s, status := .done, results := r }

/-! ### Chapter 7 -/

/-- PLANT STATUS (R126). -/
def answerPlantStatus (supply : Octet) (busVoltage load headroom : Quad) (s : State) : Answer :=
  match supplyOf supply with
  | none => refuse .range s
  | some d =>
    let s1 := writePlant (plantReportOf d busVoltage load headroom) s
    { state := s1
      status := if reportClamped busVoltage load headroom then .doneClamped else .done
      results := plantResults s1.plant }

/-- HOLD MAINTENANCE and RELEASE HOLD (R129). -/
def answerHold (s : State) : Answer := done (setHold s)
def answerReleaseHold (s : State) : Answer := done (clearHold s)

/-- OPEN WINDOW (R124). -/
def answerOpenWindow (budget minutes : Half) (s : State) : Answer :=
  if minutes = 0 then refuse .range s
  else
    let s1 := openWindow (clampBudget budget) (clampMinutes minutes) s
    { state := s1
      status :=
        if clampBudget budget ≠ budget.toNat ∨ clampMinutes minutes ≠ minutes.toNat then .doneClamped
        else .done
      results := windowOctets s1.plant }

/-- CLOSE WINDOW (R125). -/
def answerCloseWindow (s : State) : Answer :=
  let s1 := closeWindowNow s
  doneWith (windowOctets s1.plant) s1

/-- READ FORECAST (R132). -/
def answerReadForecast (s : State) : Answer := doneWith (forecastResults s) s

/-! ### Chapter 1 -/

/-- READ STRING (R18). -/
def answerReadString (string : Octet) (s : State) : Answer :=
  match finOf 8 string with
  | some i => doneWith (stringResults i s) s
  | none => refuse .range s

/-- BAR STRING (R15). -/
def answerBar (string : Octet) (s : State) : Answer :=
  match finOf 8 string with
  | none => refuse .range s
  | some i =>
    if !isInstalled s i then refuse .absent s
    else
      let s1 := judge (bar i .byRequest s)
      match (recordOf s i).state with
      | .equalise _ | .water _ => accepted s1
      | _ => done s1

/-- UNBAR STRING (R16). -/
def answerUnbar (string : Octet) (s : State) : Answer :=
  match finOf 8 string with
  | none => refuse .range s
  | some i =>
    if !isInstalled s i then refuse .absent s
    else match (recordOf s i).state with
      | .equalise (some _) | .water (some _) => refuse .busy s
      | .barred _ =>
        if s.eqc.attachment.holds i || s.wac.valve.holds i then refuse .locked s
        else if !isPresent s (nodeOf i) then refuse .notPresent s
        else done (judge (setStringState i .float s))
      | _ => refuse .notFound s

/-! ### READ ROUNDS (R167) -/

def answerReadRounds (selector : Octet) (s : State) : Answer :=
  match selector.toNat with
  | 0 => doneWith (queueResults s) s
  | 1 => doneWith (equaliseResults s) s
  | 2 => doneWith (waterResults s) s
  | 3 => doneWith (siteResults s) s
  | 4 => doneWith (loopResults s) s
  | 5 => doneWith (demandResults s) s
  | _ => refuse .range s

/-! ### Notices (R169) -/

def answerReadNotices (p : Port) (s : State) : Answer := doneWith (noticesResults p s) s

def answerAckNotices (p : Port) (mask : Half) (s : State) : Answer :=
  let removed := (s.ports.get p).pending &&& mask.setWidth 12
  doneWith (noticeOctets removed) (modPort p (fun u => { u with pending := u.pending &&& ~~~removed }) s)

def answerSetEnables (p : Port) (mask : Half) (s : State) : Answer :=
  doneWith (noticeOctets (mask.setWidth 12)) (modPort p (fun u => { u with enabled := mask.setWidth 12 }) s)

/-! ### Chapter 8 -/

/-- The slot a port owns (Table 8.1); Port E owns none. -/
def slotPort (p : Port) : Option SlotPort :=
  match p with
  | .plant => some .plant
  | .service => some .service
  | .energy => none

def isReleased (s : State) : Bool :=
  match s.loop.release with
  | .released _ => true
  | _ => false

/-- The command a LOOP TRANSACTION asks for (R145 order 1). -/
def passCommand (member command : Octet) (data : List Octet) : Option (MemberNo × LoopCommand) :=
  match finOf 10 member, LoopCommand.ofOctets command data with
  | some m, some c => if c.takenBy m then some (m, c) else none
  | _, _ => none

/-- The request held by the slot; in a release the Service slot's is carried out at once (R145, R149). -/
def placePass (p : SlotPort) (m : MemberNo) (c : LoopCommand) (s : State) : State :=
  let s := setSlot p (.waiting m c) s
  if p = .service ∧ isReleased s ∧ s.loop.inFlight.isNone then grantService s else s

/-- Orders 2 to 6 of R145. -/
def judgePass (p : SlotPort) (m : MemberNo) (c : LoopCommand) (s : State) : Answer :=
  if p = .plant ∧ !c.isRead then refuse .notPermitted s
  else if p = .service ∧ !c.isRead ∧ !c.isConfig ∧ !isReleased s then refuse .notPermitted s
  else if slotOf s p ≠ .empty then refuse .busy s
  else if c.isConfig ∧ nodeBusy s m then refuse .locked s
  else accepted (placePass p m c s)

/-- LOOP TRANSACTION (R145). -/
def answerLoopTransaction (p : Port) (member command : Octet) (data : List Octet) (s : State) : Answer :=
  match slotPort p, passCommand member command data with
  | none, _ => refuse .notPermitted s
  | some _, none => refuse .range s
  | some sp, some (m, c) => judgePass sp m c s

/-- LOOP RESULT (R146). -/
def answerLoopResult (p : Port) (s : State) : Answer :=
  match slotPort p with
  | none => refuse .notPermitted s
  | some sp =>
    match slotOf s sp with
    | .empty => refuse .notFound s
    | .waiting _ _ | .inFlight => refuse .busy s
    | .done r => doneWith (slotResults r) (setSlot sp .empty s)

/-- TAKE LOOP (R147). -/
def answerTakeLoop (s : State) : Answer :=
  match s.loop.release with
  | .free =>
    let s1 := addPause .loopRelease (setRelease .pending s)
    if s1.loop.inFlight.isNone ∧ grantConditions s1 then done (judge (grantRelease s1))
    else accepted (judge s1)
  | .safeState false todo => accepted (judge (addPause .loopRelease (setRelease (.safeState true todo) s)))
  | .pending | .released _ | .safeState true _ => refuse .busy s

/-- GIVE LOOP (R150). -/
def answerGiveLoop (s : State) : Answer :=
  match s.loop.release with
  | .pending => done (judge (removePause .loopRelease (setRelease .free s)))
  | .released _ => done (judge (endRelease s))
  | .safeState true todo => done (setRelease (.safeState false todo) s)
  | .free | .safeState false _ => refuse .notFound s

/-- LOOP RAW (R149). -/
def answerLoopRaw (octets : List Octet) (s : State) : Answer :=
  if !isReleased s then refuse .notPermitted s
  else if s.loop.serviceSlot ≠ .empty then refuse .busy s
  else accepted (setInFlight (some (.raw octets)) (setSlot .service .inFlight s))

/-! ### Chapter 3 -/

/-- The kind octet (Table 10.10). -/
def kindOf (o : Octet) : Kind := if o = 0 then .equalise else .water

/-- The work a REQUEST ROUND asks for: the optional fields replaced by the default recipe or Dmax (R50 item 2). -/
def requestedWork (k : Kind) (i : StringNo) (recipe dose : Option Nat) (s : State) : Work :=
  match k with
  | .equalise =>
    match recipe with
    | some r => .equalise (Fin.ofNat 4 r)
    | none => .equalise s.settings.defaultRecipe[i]
  | .water => .water (dose.getD s.settings.dmax)

/-- The status of a post's result (R50). -/
def postStatus (r : PostResult) : Status :=
  match r with
  | .added => .done
  | .merged => .merged
  | .refused st => st

/-- R50 item 1: a recipe or a dose limit given outside its range. -/
def badFields (recipe dose : Option Nat) : Bool :=
  (match recipe with | some r => 3 < r | none => false)
    || (match dose with | some d => d < 1 || 10000 < d | none => false)

/-- REQUEST ROUND (R50). -/
def answerRequestRound (kind string urgency presence recipe : Octet) (dose : Half) (s : State) : Answer :=
  let r := given (presence.getLsbD 0) recipe.toNat
  let d := given (presence.getLsbD 1) dose.toNat
  match finOf 8 string with
  | none => refuse .range s
  | some i =>
    if badFields r d then refuse .range s
    else
      let k := kindOf kind
      let (s1, res) := post
        { work := requestedWork k i r d s, string := i
          urgency := if urgency = 0 then .normal else .urgent, origin := .request } s
      match res with
      | .refused st => refuse st s1
      | _ => { state := judge s1, status := postStatus res, results := postedResults k i s1 }

/-- CANCEL ROUND on a round that holds the string (R52, orders 3 to 5). -/
def cancelRunning (k : Kind) (i : StringNo) (s : State) : Answer :=
  match k, (recordOf s i).state with
  | .equalise, .equalise _ =>
    if (openRound s).isSome then accepted (judge (decideEqualise .cancelled s)) else refuse .busy s
  | .water, .water _ =>
    if (openDose s).isSome then accepted (judge (decideWater .cancelled s)) else refuse .busy s
  | _, _ => refuse .notFound s

/-- CANCEL ROUND (R52). -/
def answerCancelRound (kind string : Octet) (s : State) : Answer :=
  match finOf 8 string with
  | none => refuse .range s
  | some i =>
    match findEntry (kindOf kind) i s.queue with
    | some e => done (judge (cancelEntry .request e s))
    | none => cancelRunning (kindOf kind) i s

/-! ### CLEAR CHANNEL (R80, R118) -/

/-- The sequence will still send the transaction on the channel's behalf (assumption 33). -/
def sequenceOwes (x : SafeStep) (s : State) : Bool :=
  match s.loop.release with
  | .safeState _ (some todo) => todo.contains x
  | .safeState _ none => true
  | _ => false

/-- A DETACH of the channel, or of the sequence on its behalf, is pending or in flight (R80). -/
def detachOut (s : State) : Bool :=
  (match s.loop.claimEqualise with
    | some .detach | some .faultDetach | some .clearDetach => true
    | _ => false)
  || (match equaliseInFlight s with
    | some .detach | some .faultDetach | some .clearDetach => true
    | _ => false)
  || safeInFlight s = some .detach || sequenceOwes .boost s

/-- CLEAR CHANNEL of EQUALISE (R80). -/
def answerClearEqualise (s : State) : Answer :=
  if s.eqc.state ≠ .fault then refuse .notFound s
  else if detachOut s then refuse .busy s
  else accepted (claimEqualise .clearDetach (modEqc (fun e => { e with clear := true }) s))

/-- A clear is outstanding, or a PUMP OFF of the channel or of the sequence is pending or in flight (R118). -/
def pumpOffOut (s : State) : Bool :=
  s.wac.clear
  || (match s.loop.claimWater with
    | some .pumpOff | some .faultPumpOff | some .clearPumpOff => true
    | _ => false)
  || (match waterInFlight s with
    | some .pumpOff | some .faultPumpOff | some .clearPumpOff => true
    | _ => false)
  || safeInFlight s = some .pumpOff || sequenceOwes .pumpOff s

/-- CLEAR CHANNEL of WATER (R118). -/
def answerClearWater (s : State) : Answer :=
  if s.wac.state ≠ .fault then refuse .notFound s
  else if pumpOffOut s then refuse .busy s
  else accepted (claimWater .clearPumpOff (modWac (fun w => { w with clear := true }) s))

def answerClearChannel (channel : Octet) (s : State) : Answer :=
  if channel = 0 then answerClearEqualise s else answerClearWater s

/-! ### Chapter 9 -/

/-- READ DEMANDS (R160). -/
def answerReadDemands (s : State) : Answer :=
  let taken := s.demand.fifo.take Config.demandsPerRead
  let s1 := modDemand (fun d => { d with fifo := d.fifo.drop Config.demandsPerRead }) s
  doneWith (readDemandsResults taken s1.demand) s1

/-- CLEAR OVERFLOW (R160). -/
def answerClearOverflow (s : State) : Answer :=
  if s.demand.overflow then done (modDemand (fun d => { d with overflow := false, dropped := 0 }) s)
  else refuse .notFound s

/-! ### Chapter 11 -/

/-- The place of a segment and an index. -/
def logPlace (g : Fin 4) (i : Fin 16) : Fin 64 := ⟨g.val * 16 + i.val, by omega⟩

/-- READ LOG RECORD (R173). -/
def answerReadLog (segment index : Octet) (s : State) : Answer :=
  match finOf 4 segment, finOf 16 index with
  | some g, some i =>
    match s.log.places[logPlace g i] with
    | some r => doneWith (recordResults r s.log) s
    | none => refuse .notFound s
  | _, _ => refuse .range s

/-- RELEASE SEGMENT (R173). -/
def answerReleaseSegment (segment : Octet) (s : State) : Answer :=
  match finOf 4 segment with
  | none => refuse .range s
  | some g =>
    if s.log.full[g] then
      done { s with log :=
        { s.log with full := s.log.full.set g false, overrun := s.log.overrun.set g false } }
    else refuse .notFound s

/-- WRITE SETTING (R175). -/
def answerWriteSetting (identifier index : Octet) (value : List Octet) (s : State) : Answer :=
  let (s1, st) := writeSetting identifier index value s
  { state := s1, status := st, results := [] }

/-- READ SETTING (R175): the working value and the modified mark. -/
def answerReadSetting (identifier index : Octet) (s : State) : Answer :=
  match Setting.named identifier index with
  | some x => doneWith (settingOctets s.settings x ++ encFlag s.store.modified) s
  | none => refuse .range s

/-- STORE SETTINGS (R176). -/
def answerStoreSettings (s : State) : Answer :=
  if s.store.storing then refuse .busy s else accepted (beginStore s)

/-- SET CLOCK (R178). -/
def answerSetClock (seconds : Quad) (s : State) : Answer :=
  doneWith (octetsOfQuad seconds) { s with clock := some seconds }

/-- RESTART (R179): the pin reset follows the reply. -/
def answerRestart (s : State) : Answer := done s

/-! ### Permission, shape, owner (R165) -/

/-- R165 step 3. -/
def owner (p : Port) (r : Request) (s : State) : Answer :=
  match r with
  | .plantStatus supply v l h => answerPlantStatus supply v l h s
  | .holdMaintenance => answerHold s
  | .releaseHold => answerReleaseHold s
  | .openWindow b m => answerOpenWindow b m s
  | .closeWindow => answerCloseWindow s
  | .readForecast => answerReadForecast s
  | .readString i => answerReadString i s
  | .readRounds x => answerReadRounds x s
  | .readNotices => answerReadNotices p s
  | .ackNotices m => answerAckNotices p m s
  | .setNoticeEnables m => answerSetEnables p m s
  | .loopTransaction m c d => answerLoopTransaction p m c d s
  | .loopResult => answerLoopResult p s
  | .requestRound k i u x rc d => answerRequestRound k i u x rc d s
  | .cancelRound k i => answerCancelRound k i s
  | .barString i => answerBar i s
  | .unbarString i => answerUnbar i s
  | .clearChannel c => answerClearChannel c s
  | .takeLoop => answerTakeLoop s
  | .giveLoop => answerGiveLoop s
  | .loopRaw o => answerLoopRaw o s
  | .readDemands => answerReadDemands s
  | .clearOverflow => answerClearOverflow s
  | .readLogRecord g i => answerReadLog g i s
  | .releaseSegment g => answerReleaseSegment g s
  | .writeSetting i x v => answerWriteSetting i x v s
  | .readSetting i x => answerReadSetting i x s
  | .storeSettings => answerStoreSettings s
  | .setClock t => answerSetClock t s
  | .restart => answerRestart s

/-- R165 for a request whose parameters have its length: permission, shape, owner. -/
def answer (p : Port) (r : Request) (s : State) : Answer :=
  if !permitted p r.code then refuse .notPermitted s
  else if !r.wellShaped then refuse .range s
  else owner p r s

/-- R165 for a frame's body: where the parameters have not the length the code defines, the shape fails (after
the permission). -/
def answerBody (p : Port) (code : Octet) (params : List Octet) (s : State) : Answer :=
  if !permitted p code then refuse .notPermitted s
  else match Request.ofParams code params with
    | some r => answer p r s
    | none => refuse .range s

end Sys2Proof.Machine
end

