-- ==== Sys2Proof/Machine/Ports.lean ====
section
/-! DEFINITION. The Port Units' receive side (R163 to R165): characters, frames, the checks, and how a request comes
to its owner and its reply to be owed. -/

namespace Sys2Proof.Machine

def rxOf (s : State) (p : Port) : RxState := (s.ports.get p).rx

def setRx (p : Port) (x : RxState) (s : State) : State :=
  modPort p (fun u => { u with rx := x }) s

/-- The answer's state with the reply owed (R165; Table 10.6: request code + 80h, the tag of the request). -/
def oweReply (p : Port) (code tag : Octet) (a : Answer) : State :=
  setRx p (.replyOwed { code := code + 0x80, tag := tag, status := a.status, results := a.results }) a.state

/-- A request taken whole (R165). -/
def serve (p : Port) (tag : Octet) (r : Request) (s : State) : State :=
  oweReply p r.code tag (answer p r s)

/-- A complete frame is judged (R164): its checks, its code, then R165. -/
def judgeFrame (p : Port) (length : Octet) (octets : List Octet) (spoiled : Bool) (s : State) : State :=
  if spoiled ∨ octetSum (length :: octets) ≠ 0 then setRx p .resync s
  else match octets.dropLast with
    | code :: tag :: params =>
      if knownCode code then oweReply p code tag (answerBody p code params s) else setRx p .resync s
    | _ => setRx p .resync s

/-- The length octet is judged: below 2 or above 64 is bad (R164, Table 10.5). -/
def badLength (o : Octet) : Bool := o.toNat < 2 || 64 < o.toNat

/-- An octet in FRAME (R164): the length first, then body and check; the frame is complete when its check octet
has come. A bad length discards the frame at once (assumption 16). -/
def frameOctet (p : Port) (length : Option Octet) (buffer : List Octet) (spoiled : Bool) (o : Octet)
    (s : State) : State :=
  match length with
  | none =>
    if badLength o then setRx p .resync s else setRx p (.frame (some o) [] spoiled) s
  | some n =>
    let buffer := buffer ++ [o]
    if n.toNat + 1 ≤ buffer.length then judgeFrame p n buffer spoiled s
    else setRx p (.frame (some n) buffer spoiled) s

/-- A character at a master port (R164). A start bit that is not taken is no character (R135). -/
def receiveChar (p : Port) (c : LineChar) (s : State) : State :=
  if !c.taken then s
  else match rxOf s p with
    | .hunt =>
      if c.octet = 0xA5 ∧ !c.spoiled then setRx p (.frame none [] false) s else s
    | .frame length buffer spoiled => frameOctet p length buffer (spoiled || c.spoiled) c.octet s
    | .replyOwed _ | .resync => s

/-- Characters that follow one another with no gap. -/
def receiveChars (p : Port) (cs : List LineChar) (s : State) : State :=
  cs.foldl (fun acc c => receiveChar p c acc) s

/-- What a receive state has taken of a frame so far, marker included. -/
def takenSoFar (x : RxState) : List Octet :=
  match x with
  | .frame none _ _ => [0xA5]
  | .frame (some n) buffer _ => [0xA5, n] ++ buffer
  | _ => []

/-- The characters of a request frame that are still to come: all of it, unless what the port has taken is the
frame's beginning (assumption 19). -/
def charsToCome (x : RxState) (frame : List Octet) : List Octet :=
  if (takenSoFar x).isPrefixOf frame then frame.drop (takenSoFar x).length else frame

/-- The body of the frame fits its length (Table 10.5). -/
def fitsFrame (r : Request) : Bool := r.params.length + 2 ≤ 64

/-- A request frame arrives (the request rows of the opcode table). In HUNT it is taken whole; in FRAME its
characters go on from where the port stands; in REPLY OWED and RESYNC they are discarded (R164). -/
def arrive (p : Port) (tag : Octet) (r : Request) (s : State) : State :=
  match rxOf s p with
  | .hunt => if fitsFrame r then serve p tag r s else setRx p .resync s
  | .frame l b sp => receiveChars p ((charsToCome (.frame l b sp) (r.frame tag)).map LineChar.clean) s
  | .replyOwed _ | .resync => s

/-! ### Timers of the line, and frames that fail -/

/-- The gap timer reaches 20 ms in FRAME: the frame is discarded, state HUNT (R164). -/
def gapTimeout (p : Port) (s : State) : State :=
  match rxOf s p with
  | .frame _ _ _ => setRx p .hunt s
  | _ => s

/-- The line has been idle for 20 ms in RESYNC (R164). -/
def resyncIdle (p : Port) (s : State) : State :=
  match rxOf s p with
  | .resync => setRx p .hunt s
  | _ => s

/-- Characters that complete a frame at this port which fails its checks (R164): the port is then in RESYNC. Any
other characters are not this event, and change nothing (assumption 19). -/
def badFrame (p : Port) (cs : List LineChar) (s : State) : State :=
  match rxOf s p with
  | .replyOwed _ | .resync => s
  | _ =>
    match rxOf (receiveChars p cs s) p with
    | .resync => setRx p .resync s
    | _ => s

/-- The reply owed is that of a RESTART taken (R179). -/
def restartOwed (x : RxState) : Bool :=
  match x with
  | .replyOwed r => r.code = 0x9E && r.status = .done
  | _ => false

/-- The reply's check octet has been sent: the port enters RESYNC; a RESTART's pin reset is taken (R165, R179). -/
def replySent (p : Port) (straps : Straps) (s : State) : State :=
  match rxOf s p with
  | .replyOwed r =>
    if restartOwed (.replyOwed r) then takePinReset straps s else setRx p .resync s
  | _ => s

/-! ### The loop's lines -/

/-- The characters the loop's receiver takes: those whose start bit it takes (R135). -/
def loopChars (cs : List LineChar) : List LineChar := cs.filter LineChar.taken

/-- The transaction whose reply is awaited. -/
def awaited (s : State) : Option Transaction :=
  (transactionInFlight s).filter fun t => t.wait = .reply

/-- A reply that has arrived whole; characters while none is awaited change no state (R135). -/
def replyArrives (cs : List LineChar) (s : State) : State :=
  match awaited s with
  | some t =>
    if (loopChars cs).isEmpty then s else takeReply t (readReply t.member t.command (loopChars cs)) s
  | none => s

/-- No start bit within 200 ms (R138). -/
def replyTimedOut (s : State) : State :=
  match awaited s with
  | some t => failAttempt t .noAnswer s
  | none => s

/-- The end of a poll, and what is judged after it (R154, R156). -/
def endPoll (r : PollRead) (s : State) : State :=
  judgeDemand (judge (takePoll r (setInFlight none s)))

/-- A poll is in flight. -/
def pollInFlight (s : State) : Bool :=
  match s.loop.inFlight with
  | some (.poll _) => true
  | _ => false

/-- A gap of more than 20 ms inside a reply spoils it (R135); inside a returned poll it fails the poll (R156). -/
def replyGap (s : State) : State :=
  if pollInFlight s then endPoll .failed s
  else match awaited s with
    | some t => failAttempt t .lineFault s
    | none => s

/-- The poll frame has returned (R156). -/
def pollReturns (cs : List LineChar) (s : State) : State :=
  if pollInFlight s ∧ !(loopChars cs).isEmpty then endPoll (readPoll (loopChars cs)) s else s

/-- No start bit within 200 ms of the end of the poll (R156). -/
def pollTimedOut (s : State) : State :=
  if pollInFlight s then endPoll .failed s else s

/-- The fixed delay expires (R137): the reply is awaited, or the class A repeat is sent and awaited. -/
def delayExpires (s : State) : State :=
  match transactionInFlight s with
  | some t =>
    match t.wait with
    | .delay | .autoRepeat => putTransaction { t with wait := .reply } s
    | .reply => s
  | none => s

/-- Raw reception ends (R149): at most 56 octets, with the mark of any spoiled character; a sequence that a
release's end left waiting starts (R150). -/
def rawEnds (cs : List LineChar) (s : State) : State :=
  match s.loop.inFlight with
  | some (.raw _) =>
    let taken := (loopChars cs).take Config.rawTop
    let s := slotDone .service (.raw (taken.map LineChar.octet) (taken.any LineChar.spoiled))
      (setInFlight none s)
    judge (startSafe s)
  | _ => s

/-! ### What the Loop Controller transmits (R135) -/

/-- The command takes a reset, which abandons what is in flight (R138). -/
def takesReset (c : Instr) (s : State) : Bool :=
  match c with
  | .powerOn _ | .pinReset _ => true
  | .replySent p _ => restartOwed (rxOf s p)
  | _ => false

/-- The request of what is in flight goes out in the step that put it there: at its grant, at a repeat and at a
retry (R137, R138), not at the end of the fixed delay before a reply or at a HOLD that waits for its one repeat. -/
def InFlight.sentAfter (before : Option InFlight) (now : InFlight) : Bool :=
  match before, now with
  | some (.transaction a), .transaction b =>
    a ≠ b && b.wait ≠ .autoRepeat && !(a.wait = .delay && b = { a with wait := .reply })
  | _, _ => before ≠ some now

/-- The octets the Loop Controller puts on LTXD in the step in which `c` takes `s` to `t`. -/
def loopSends (c : Instr) (s t : State) : List Octet :=
  match t.loop.inFlight with
  | some x =>
    if x.sentAfter (if takesReset c s then none else s.loop.inFlight) then x.frame else []
  | none => []

/-- LDIR is at transmit for the length of the frame that a step sends, and at receive at all other times (R135,
assumption 22). -/
def ldirTransmits (c : Instr) (s t : State) : Bool := !(loopSends c s t).isEmpty

/-! ### The arbiter's events -/

/-- A boundary at which the arbiter grants a claim (R144). -/
def grantAtBoundary (s : State) : State :=
  if arbiterOpen s then grantHighest s else s

/-- A boundary at which the release is granted (R148). -/
def grantReleaseAtBoundary (s : State) : State :=
  if s.loop.inFlight.isNone ∧ s.loop.release = .pending ∧ grantConditions s then
    judge (grantRelease s)
  else s

/-- The DEMAND line takes a level, and is judged (R154). -/
def demandLine (level : Bool) (s : State) : State :=
  judgeDemand (modDemand (fun d => { d with line := level }) s)

/-- The spacing after a failed poll ends (R154). -/
def spacingEnds (s : State) : State :=
  if s.demand.poll = .spacing then judgeDemand (modDemand (fun d => { d with poll := .idle }) s) else s

end Sys2Proof.Machine
end

