-- ==== Sys2Proof/Machine/Events.lean ====
section
/-! DEFINITION. The meanings of the event rows of spec/opcode_table.json, one definition per row. An event whose
condition does not stand changes nothing (assumption 1). -/

namespace Sys2Proof.Machine

/-- The outcome of every meaning is a next state: the part stops on nothing. -/
abbrev Result := Host.Outcome State Fault Refusal

/-- POWER_ON (R20): supply is applied. -/
def execPowerOn (straps : Straps) (s : State) : Result :=
  .next (takePowerOn straps s)

/-- PIN_RESET (R21): RESETN held low for at least 10 ms. -/
def execPinReset (straps : Straps) (s : State) : Result :=
  .next (takePinReset straps s)

/-- SITE_TICK (R3, R22, R38, R67, R108, R127, R149, R158, R178): the one-second tick. -/
def execSiteTick (s : State) : Result :=
  .next (takeTick s)

/-- SITE_HOUR (R5). -/
def execSiteHour (s : State) : Result :=
  .next (takeHour s)

/-- SITE_MINUTE (R11, R123). -/
def execSiteMinute (s : State) : Result :=
  .next (takeMinute s)

/-- SETTLE_END (R11). -/
def execSettleEnd (string : StringNo) (s : State) : Result :=
  .next (takeSettleEnd string s)

/-- WINDOW_EXPIRY (R123, R125). -/
def execWindowExpiry (s : State) : Result :=
  .next (takeWindowExpiry s)

/-- SWEEP_MATCH (R23 to R25). -/
def execSweepMatch (s : State) : Result :=
  .next (takeSweepMatch s)

/-- SCHEDULE_MATCH (R38, R40). -/
def execScheduleMatch (s : State) : Result :=
  .next (takeScheduleMatch s)

/-- PERIOD_EXPIRY (R67). -/
def execPeriodExpiry (s : State) : Result :=
  .next (takePeriodExpiry s)

/-- STANDBY_REFRESH (R71). -/
def execStandbyRefresh (s : State) : Result :=
  .next (takeStandbyRefresh s)

/-- PAUSE_EXPIRED (R73). -/
def execPauseExpired (s : State) : Result :=
  .next (takePauseExpired s)

/-- DOSE_POLL (R108). -/
def execDosePoll (s : State) : Result :=
  .next (takeDosePoll s)

/-- MAXIMUM_DOSE_TIME (R109). -/
def execMaximumDoseTime (s : State) : Result :=
  .next (takeMaximumDose s)

/-- RESERVOIR_POLL (R104). -/
def execReservoirPoll (s : State) : Result :=
  .next (takeReservoirPoll s)

/-- STALE (R127). -/
def execStale (s : State) : Result :=
  .next (takeStale s)

/-- RELEASE_LIMIT (R149, R150). -/
def execReleaseLimit (s : State) : Result :=
  .next (takeReleaseLimit s)

/-- POLL_SPACING_END (R154). -/
def execPollSpacingEnd (s : State) : Result :=
  .next (spacingEnds s)

/-- RECONFIGURATION_WAIT_END (R158). -/
def execReconfigurationWaitEnd (node : StringNo) (s : State) : Result :=
  .next (takeWaitEnd node s)

/-- STORE_COMPLETE (R176). -/
def execStoreComplete (s : State) : Result :=
  .next (takeStoreComplete s)

/-- DEMAND_LINE_ASSERTED (R154): the line takes the level (assumption 10). -/
def execDemandLineAsserted (level : Bool) (s : State) : Result :=
  .next (demandLine level s)

/-- LOOP_GRANT (R144). -/
def execLoopGrant (s : State) : Result :=
  .next (grantAtBoundary s)

/-- RELEASE_GRANT (R148). -/
def execReleaseGrant (s : State) : Result :=
  .next (grantReleaseAtBoundary s)

/-- FIXED_DELAY (R137). -/
def execFixedDelay (s : State) : Result :=
  .next (delayExpires s)

/-- LOOP_REPLY (R135, R138). -/
def execLoopReply (chars : List LineChar) (s : State) : Result :=
  .next (replyArrives chars s)

/-- REPLY_TIMEOUT (R138). -/
def execReplyTimeout (s : State) : Result :=
  .next (replyTimedOut s)

/-- LOOP_REPLY_GAP (R135). -/
def execLoopReplyGap (s : State) : Result :=
  .next (replyGap s)

/-- DEMAND_POLL_RETURN (R156, R157). -/
def execDemandPollReturn (chars : List LineChar) (s : State) : Result :=
  .next (pollReturns chars s)

/-- POLL_RETURN_TIMEOUT (R156). -/
def execPollReturnTimeout (s : State) : Result :=
  .next (pollTimedOut s)

/-- RAW_COLLECTION_END (R149). -/
def execRawCollectionEnd (chars : List LineChar) (s : State) : Result :=
  .next (rawEnds chars s)

/-- FRAME_GAP_TIMEOUT (R164). -/
def execFrameGapTimeout (p : Port) (s : State) : Result :=
  .next (gapTimeout p s)

/-- RESYNC_IDLE (R164). -/
def execResyncIdle (p : Port) (s : State) : Result :=
  .next (resyncIdle p s)

/-- BAD_FRAME (R164). -/
def execBadFrame (p : Port) (chars : List LineChar) (s : State) : Result :=
  .next (badFrame p chars s)

/-- REPLY_SENT (R165, R179). -/
def execReplySent (p : Port) (straps : Straps) (s : State) : Result :=
  .next (replySent p straps s)

/-- CHARACTER_RECEIVED (R164). -/
def execCharacterReceived (p : Port) (char : LineChar) (s : State) : Result :=
  .next (receiveChar p char s)

end Sys2Proof.Machine
end

