-- ==== Sys2Proof/Machine/Masters.lean ====
section
/-! DEFINITION. The meanings of the request rows of spec/opcode_table.json, one definition per row: the request frame
arrives whole at the port, is judged for permission and shape, and is answered by its owner (R164, R165). -/

namespace Sys2Proof.Machine

/-- PLANT_STATUS (R126 to R128). -/
def execPlantStatus (p : Port) (tag supply : Octet) (busVoltage load headroom : Quad)
    (s : State) : Result :=
  .next (arrive p tag (.plantStatus supply busVoltage load headroom) s)

/-- HOLD_MAINTENANCE (R129). -/
def execHoldMaintenance (p : Port) (tag : Octet) (s : State) : Result :=
  .next (arrive p tag .holdMaintenance s)

/-- RELEASE_HOLD (R129). -/
def execReleaseHold (p : Port) (tag : Octet) (s : State) : Result :=
  .next (arrive p tag .releaseHold s)

/-- OPEN_WINDOW (R124). -/
def execOpenWindow (p : Port) (tag : Octet) (budget minutes : Half) (s : State) : Result :=
  .next (arrive p tag (.openWindow budget minutes) s)

/-- CLOSE_WINDOW (R125). -/
def execCloseWindow (p : Port) (tag : Octet) (s : State) : Result :=
  .next (arrive p tag .closeWindow s)

/-- READ_FORECAST (R132). -/
def execReadForecast (p : Port) (tag : Octet) (s : State) : Result :=
  .next (arrive p tag .readForecast s)

/-- READ_STRING (R18). -/
def execReadString (p : Port) (tag string : Octet) (s : State) : Result :=
  .next (arrive p tag (.readString string) s)

/-- READ_ROUNDS_QUEUE (R57, R167). -/
def execReadRoundsQueue (p : Port) (tag : Octet) (s : State) : Result :=
  .next (arrive p tag (.readRounds 0) s)

/-- READ_ROUNDS_EQUALISE (R83, R167). -/
def execReadRoundsEqualise (p : Port) (tag : Octet) (s : State) : Result :=
  .next (arrive p tag (.readRounds 1) s)

/-- READ_ROUNDS_WATER (R121, R167). -/
def execReadRoundsWater (p : Port) (tag : Octet) (s : State) : Result :=
  .next (arrive p tag (.readRounds 2) s)

/-- READ_ROUNDS_SITE (R133, R167). -/
def execReadRoundsSite (p : Port) (tag : Octet) (s : State) : Result :=
  .next (arrive p tag (.readRounds 3) s)

/-- READ_ROUNDS_LOOP (R153, R167). -/
def execReadRoundsLoop (p : Port) (tag : Octet) (s : State) : Result :=
  .next (arrive p tag (.readRounds 4) s)

/-- READ_ROUNDS_DEMAND (R161, R167). -/
def execReadRoundsDemand (p : Port) (tag : Octet) (s : State) : Result :=
  .next (arrive p tag (.readRounds 5) s)

/-- READ_NOTICES (R169). -/
def execReadNotices (p : Port) (tag : Octet) (s : State) : Result :=
  .next (arrive p tag .readNotices s)

/-- ACK_NOTICES (R169). -/
def execAckNotices (p : Port) (tag : Octet) (mask : Half) (s : State) : Result :=
  .next (arrive p tag (.ackNotices mask) s)

/-- SET_NOTICE_ENABLES (R169). -/
def execSetNoticeEnables (p : Port) (tag : Octet) (mask : Half) (s : State) : Result :=
  .next (arrive p tag (.setNoticeEnables mask) s)

/-- LOOP_TRANSACTION (R145). -/
def execLoopTransaction (p : Port) (tag member command : Octet) (data : List Octet) (s : State) : Result :=
  .next (arrive p tag (.loopTransaction member command data) s)

/-- LOOP_RESULT (R146). -/
def execLoopResult (p : Port) (tag : Octet) (s : State) : Result :=
  .next (arrive p tag .loopResult s)

/-- REQUEST_ROUND (R50). -/
def execRequestRound (p : Port) (tag kind string urgency presence recipe : Octet) (dose : Half)
    (s : State) : Result :=
  .next (arrive p tag (.requestRound kind string urgency presence recipe dose) s)

/-- CANCEL_ROUND (R52). -/
def execCancelRound (p : Port) (tag kind string : Octet) (s : State) : Result :=
  .next (arrive p tag (.cancelRound kind string) s)

/-- BAR_STRING (R15). -/
def execBarString (p : Port) (tag string : Octet) (s : State) : Result :=
  .next (arrive p tag (.barString string) s)

/-- UNBAR_STRING (R16). -/
def execUnbarString (p : Port) (tag string : Octet) (s : State) : Result :=
  .next (arrive p tag (.unbarString string) s)

/-- CLEAR_CHANNEL_EQUALISE (R80). -/
def execClearChannelEqualise (p : Port) (tag : Octet) (s : State) : Result :=
  .next (arrive p tag (.clearChannel 0) s)

/-- CLEAR_CHANNEL_WATER (R118). -/
def execClearChannelWater (p : Port) (tag : Octet) (s : State) : Result :=
  .next (arrive p tag (.clearChannel 1) s)

/-- TAKE_LOOP (R147). -/
def execTakeLoop (p : Port) (tag : Octet) (s : State) : Result :=
  .next (arrive p tag .takeLoop s)

/-- GIVE_LOOP (R150). -/
def execGiveLoop (p : Port) (tag : Octet) (s : State) : Result :=
  .next (arrive p tag .giveLoop s)

/-- LOOP_RAW (R149). -/
def execLoopRaw (p : Port) (tag : Octet) (octets : List Octet) (s : State) : Result :=
  .next (arrive p tag (.loopRaw octets) s)

/-- READ_DEMANDS (R160). -/
def execReadDemands (p : Port) (tag : Octet) (s : State) : Result :=
  .next (arrive p tag .readDemands s)

/-- CLEAR_OVERFLOW (R160). -/
def execClearOverflow (p : Port) (tag : Octet) (s : State) : Result :=
  .next (arrive p tag .clearOverflow s)

/-- READ_LOG_RECORD (R173). -/
def execReadLogRecord (p : Port) (tag segment index : Octet) (s : State) : Result :=
  .next (arrive p tag (.readLogRecord segment index) s)

/-- RELEASE_SEGMENT (R173). -/
def execReleaseSegment (p : Port) (tag segment : Octet) (s : State) : Result :=
  .next (arrive p tag (.releaseSegment segment) s)

/-- WRITE_SETTING (R175). -/
def execWriteSetting (p : Port) (tag identifier index : Octet) (value : List Octet)
    (s : State) : Result :=
  .next (arrive p tag (.writeSetting identifier index value) s)

/-- READ_SETTING (R175). -/
def execReadSetting (p : Port) (tag identifier index : Octet) (s : State) : Result :=
  .next (arrive p tag (.readSetting identifier index) s)

/-- STORE_SETTINGS (R176). -/
def execStoreSettings (p : Port) (tag : Octet) (s : State) : Result :=
  .next (arrive p tag .storeSettings s)

/-- SET_CLOCK (R178). -/
def execSetClock (p : Port) (tag : Octet) (seconds : Quad) (s : State) : Result :=
  .next (arrive p tag (.setClock seconds) s)

/-- RESTART (R179). -/
def execRestart (p : Port) (tag : Octet) (s : State) : Result :=
  .next (arrive p tag .restart s)

end Sys2Proof.Machine
end

