-- ==== Sys2Proof/Machine/Dispatch.lean ====
section
/-! DEFINITION. exec: one arm per command, each a direct call of its meaning. -/

namespace Sys2Proof.Machine

def exec (i : Instr) (s : State) : Host.Outcome State Fault Refusal :=
  match i with
  | .powerOn straps => Sys2Proof.Machine.execPowerOn straps s
  | .pinReset straps => Sys2Proof.Machine.execPinReset straps s
  | .siteTick => Sys2Proof.Machine.execSiteTick s
  | .siteHour => Sys2Proof.Machine.execSiteHour s
  | .siteMinute => Sys2Proof.Machine.execSiteMinute s
  | .settleEnd string => Sys2Proof.Machine.execSettleEnd string s
  | .windowExpiry => Sys2Proof.Machine.execWindowExpiry s
  | .sweepMatch => Sys2Proof.Machine.execSweepMatch s
  | .scheduleMatch => Sys2Proof.Machine.execScheduleMatch s
  | .periodExpiry => Sys2Proof.Machine.execPeriodExpiry s
  | .standbyRefresh => Sys2Proof.Machine.execStandbyRefresh s
  | .pauseExpired => Sys2Proof.Machine.execPauseExpired s
  | .dosePoll => Sys2Proof.Machine.execDosePoll s
  | .maximumDoseTime => Sys2Proof.Machine.execMaximumDoseTime s
  | .reservoirPoll => Sys2Proof.Machine.execReservoirPoll s
  | .stale => Sys2Proof.Machine.execStale s
  | .releaseLimit => Sys2Proof.Machine.execReleaseLimit s
  | .pollSpacingEnd => Sys2Proof.Machine.execPollSpacingEnd s
  | .reconfigurationWaitEnd node => Sys2Proof.Machine.execReconfigurationWaitEnd node s
  | .storeComplete => Sys2Proof.Machine.execStoreComplete s
  | .demandLineAsserted level => Sys2Proof.Machine.execDemandLineAsserted level s
  | .loopGrant => Sys2Proof.Machine.execLoopGrant s
  | .releaseGrant => Sys2Proof.Machine.execReleaseGrant s
  | .fixedDelay => Sys2Proof.Machine.execFixedDelay s
  | .loopReply chars => Sys2Proof.Machine.execLoopReply chars s
  | .replyTimeout => Sys2Proof.Machine.execReplyTimeout s
  | .loopReplyGap => Sys2Proof.Machine.execLoopReplyGap s
  | .demandPollReturn chars => Sys2Proof.Machine.execDemandPollReturn chars s
  | .pollReturnTimeout => Sys2Proof.Machine.execPollReturnTimeout s
  | .rawCollectionEnd chars => Sys2Proof.Machine.execRawCollectionEnd chars s
  | .frameGapTimeout p => Sys2Proof.Machine.execFrameGapTimeout p s
  | .resyncIdle p => Sys2Proof.Machine.execResyncIdle p s
  | .badFrame p chars => Sys2Proof.Machine.execBadFrame p chars s
  | .replySent p straps => Sys2Proof.Machine.execReplySent p straps s
  | .plantStatus p tag supply busVoltage load headroom => Sys2Proof.Machine.execPlantStatus p tag supply busVoltage load headroom s
  | .holdMaintenance p tag => Sys2Proof.Machine.execHoldMaintenance p tag s
  | .releaseHold p tag => Sys2Proof.Machine.execReleaseHold p tag s
  | .openWindow p tag budget minutes => Sys2Proof.Machine.execOpenWindow p tag budget minutes s
  | .closeWindow p tag => Sys2Proof.Machine.execCloseWindow p tag s
  | .readForecast p tag => Sys2Proof.Machine.execReadForecast p tag s
  | .readString p tag string => Sys2Proof.Machine.execReadString p tag string s
  | .readRoundsQueue p tag => Sys2Proof.Machine.execReadRoundsQueue p tag s
  | .readRoundsEqualise p tag => Sys2Proof.Machine.execReadRoundsEqualise p tag s
  | .readRoundsWater p tag => Sys2Proof.Machine.execReadRoundsWater p tag s
  | .readRoundsSite p tag => Sys2Proof.Machine.execReadRoundsSite p tag s
  | .readRoundsLoop p tag => Sys2Proof.Machine.execReadRoundsLoop p tag s
  | .readRoundsDemand p tag => Sys2Proof.Machine.execReadRoundsDemand p tag s
  | .readNotices p tag => Sys2Proof.Machine.execReadNotices p tag s
  | .ackNotices p tag mask => Sys2Proof.Machine.execAckNotices p tag mask s
  | .setNoticeEnables p tag mask => Sys2Proof.Machine.execSetNoticeEnables p tag mask s
  | .loopTransaction p tag member command data => Sys2Proof.Machine.execLoopTransaction p tag member command data s
  | .loopResult p tag => Sys2Proof.Machine.execLoopResult p tag s
  | .requestRound p tag kind string urgency presence recipe dose => Sys2Proof.Machine.execRequestRound p tag kind string urgency presence recipe dose s
  | .cancelRound p tag kind string => Sys2Proof.Machine.execCancelRound p tag kind string s
  | .barString p tag string => Sys2Proof.Machine.execBarString p tag string s
  | .unbarString p tag string => Sys2Proof.Machine.execUnbarString p tag string s
  | .clearChannelEqualise p tag => Sys2Proof.Machine.execClearChannelEqualise p tag s
  | .clearChannelWater p tag => Sys2Proof.Machine.execClearChannelWater p tag s
  | .takeLoop p tag => Sys2Proof.Machine.execTakeLoop p tag s
  | .giveLoop p tag => Sys2Proof.Machine.execGiveLoop p tag s
  | .loopRaw p tag octets => Sys2Proof.Machine.execLoopRaw p tag octets s
  | .readDemands p tag => Sys2Proof.Machine.execReadDemands p tag s
  | .clearOverflow p tag => Sys2Proof.Machine.execClearOverflow p tag s
  | .readLogRecord p tag segment index => Sys2Proof.Machine.execReadLogRecord p tag segment index s
  | .releaseSegment p tag segment => Sys2Proof.Machine.execReleaseSegment p tag segment s
  | .writeSetting p tag identifier index value => Sys2Proof.Machine.execWriteSetting p tag identifier index value s
  | .readSetting p tag identifier index => Sys2Proof.Machine.execReadSetting p tag identifier index s
  | .storeSettings p tag => Sys2Proof.Machine.execStoreSettings p tag s
  | .setClock p tag seconds => Sys2Proof.Machine.execSetClock p tag seconds s
  | .restart p tag => Sys2Proof.Machine.execRestart p tag s
  | .characterReceived p char => Sys2Proof.Machine.execCharacterReceived p char s

end Sys2Proof.Machine
end

