-- ==== Sys2Proof/Safety.lean ====
section
/-! DEFINITION. What a safe run keeps: the promises the manual makes about the whole part, as decidable predicates of
one state. -/

namespace Sys2Proof.Machine

/-! ### The Round Queue (R44, R51) -/

/-- R44: at most 12 entries, and never two entries with the same kind and string. -/
def queueKept (s : State) : Bool :=
  s.queue.length ≤ Config.queueCapacity && decide (s.queue.Pairwise fun a b => ¬ b.same a.kind a.string)

/-- A string that takes no entries: BARRED, or with a pending bar (R19, R51). -/
def closedToQueue (r : StringRecord) : Bool :=
  r.state.barCause.isSome || r.state.pendingBar.isSome

/-- R51: no entry names a BARRED string, nor one whose bar is pending. -/
def queueClearOfBars (s : State) : Bool :=
  s.queue.all fun e => !closedToQueue (recordOf s e.string)

/-! ### The Demand FIFO and the Round Log (R159, R171) -/

/-- R159: at most 32 entries. -/
def fifoKept (s : State) : Bool := s.demand.fifo.length ≤ Config.fifoCapacity

/-- R171: the records' sequence numbers are consecutive modulo 65 536 in write order, the youngest one before the
write position holding the number before the counter. -/
def logConsecutive (l : RoundLog) : Bool :=
  (List.finRange 64).all fun q =>
    match l.places[q] with
    | none => true
    | some r => r.sequence = l.sequence - 1 - BitVec.ofNat 16 (l.position - 1 - q).val

/-! ### Ranges of the string records (Table 1.2) -/

def within (lo hi x : Int) : Bool := lo ≤ x && x ≤ hi

/-- The ranges of Table 1.2 but that of settle remaining, which rests on the recipe of a round (`settleKept`). -/
def recordInRange (r : StringRecord) : Bool :=
  r.voltage ≤ 65535 && within (-32768) 32767 r.current && within (-400) 1250 r.temperature
    && r.age ≤ 65535
    && (match r.cells with | some c => c.toList.all (· ≤ 4095) | none => true)
    && r.throughput ≤ 1000000 && r.remainder < 3600
    && (match r.hoursEqualise with | some h => h ≤ 65535 | none => true)
    && (match r.hoursWater with | some h => h ≤ 65535 | none => true)
    && r.waterTotal ≤ 4294967295

def recordsInRange (s : State) : Bool := s.strings.toList.all recordInRange

/-! ### Settings in range (R166, R175) -/

def NumberSetting.inSettings (t : Settings) (n : NumberSetting) : Bool := inRange n.range (n.get t)

/-- The site-wide numbers. -/
def NumberSetting.siteWide : List NumberSetting :=
  [.sweepInterval, .cellDivider, .spreadLimit, .scheduleCompare, .period, .resumeLimit, .waterFactor,
   .floatAllowance, .dmax, .dmin, .pumpPower, .reserve, .noFlowTime, .maxDoseTime, .staleness,
   .releaseLimit, .threshold]

def ScheduleEntry.valid (e : ScheduleEntry) : Bool :=
  1 ≤ e.interval && e.interval ≤ 4000 && (match e.work with
    | .equalise _ t => decide (t ≤ 10000)
    | .water n => 1 ≤ n && n ≤ 10000)

def ClassEntry.valid (c : ClassEntry) : Bool :=
  c.delay ≤ 250 && 1 ≤ c.holdLimit && c.holdLimit ≤ 20

/-- A recipe: every parameter in the range of Table 5.3, and the two relations of R86. -/
def Recipe.valid (rc : Recipe) : Bool :=
  RecipeParam.all.all (fun p => inRange p.range (p.get rc)) && rc.consistent

/-- Every working setting lies in the range of its parameter table, and the loop map names every address once. -/
def Settings.valid (t : Settings) : Bool :=
  NumberSetting.siteWide.all (NumberSetting.inSettings t)
    && t.calibration.toList.all (fun c => within (-50) 50 c)
    && t.schedule.toList.all ScheduleEntry.valid
    && decide t.loopMap.toList.Nodup
    && t.classes.toList.all ClassEntry.valid
    && t.recipes.toList.all Recipe.valid

def settingsKept (s : State) : Bool := s.settings.valid && s.store.copy.valid

/-- Settle remaining lies in 0 to 240 min (Table 1.2), and so does the settle time it is taken from at a release (R10): the
recipe values that the round copied at its claim lie in the ranges of Table 5.3 (R60, R86). -/
def settleKept (s : State) : Bool :=
  s.strings.toList.all (fun r => r.state.remaining ≤ 240)
    && (match s.eqc.round with | some r => r.recipe.valid | none => true)

/-! ### Who holds a string (R6, R62, R103) -/

/-- The Equalise Channel holds exactly the string of its round. The Water Channel holds the string of its dose, and
besides it, in FAULT with no dose, at most the string that its valve record names, kept after a failed PUMP OFF (R112).
So each channel holds one string at most. -/
def holdersKept (s : State) : Bool :=
  (List.finRange 8).all fun i =>
    let holder := (recordOf s i).state.holder
    (holder = .eqc) == (s.eqc.round.map Round.string = some i)
      && (s.wac.dose.map Dose.string ≠ some i || holder = .wac)
      && (holder ≠ .wac || (match s.wac.dose with
        | some d => d.string = i
        | none => s.wac.state = .fault && s.wac.valve.holds i))

/-- No round stands in IDLE or FAULT of the Equalise Channel, no dose in those of the Water Channel, and no pump runs in
its IDLE. A pump that may run has been sent PUMP ON for the dose, whose valve is the one recorded open. -/
def contextsKept (s : State) : Bool :=
  (s.eqc.round.isNone || (s.eqc.state ≠ .idle && s.eqc.state ≠ .fault))
    && (s.wac.state ≠ .idle || s.wac.pump = .off)
    && (match s.wac.dose with
      | some d => s.wac.state ≠ .idle && s.wac.state ≠ .fault
        && (s.wac.pump = .off || (d.pumpOnSent && s.wac.valve.holds d.string))
      | none => true)

/-- The state of the Water Channel in which each of its transactions stands, as a claim or in flight. -/
def WaterJob.fits (j : WaterJob) (flying : Bool) (w : Wac) : Bool :=
  match j with
  | .openValve i => w.state = .open && w.dose.map Dose.string = some i
  | .pumpOn => w.state = .pump && (match w.dose with
    | some d => w.valve.holds d.string && (!flying || d.pumpOnSent)
    | none => false)
  | .pumpOff => w.state = .stop
  | .closeValve _ => w.state = .close && w.pump = .off
  | .clearPumpOff => w.state = .fault && w.clear
  | .clearClose i => w.state = .fault && w.clear && w.pump = .off && w.valve.holds i
  | .check | .reservoirPoll | .dosePoll | .faultPumpOff => true

/-- The transactions of which the Water Channel has one at a time, claimed or in flight (R144). -/
def WaterJob.alone : WaterJob → Bool
  | .check | .reservoirPoll | .dosePoll | .faultPumpOff => false
  | _ => true

/-- Each claim and each transaction in flight of the two channels stands in its state, a clear has one transaction out,
and one that the safe-state sequence serves has no claim left (R80, R82, R118, R119). -/
def jobsKept (s : State) : Bool :=
  (s.loop.claimEqualise ≠ some .clearDetach || s.eqc.state = .fault)
    && (match s.loop.claimWater with | some j => j.fits false s.wac | none => true)
    && (match s.loop.inFlight with
      | some (.transaction t) => match t.claimant with
        | .equalise .clearDetach => s.eqc.state = .fault && s.loop.claimEqualise ≠ some .clearDetach
        | .water j => j.fits true s.wac
          && (!j.alone || (match s.loop.claimWater with | some k => !k.alone | none => true))
        | .safeState j => (match s.loop.release with | .safeState _ _ => true | _ => false)
          && (j ≠ .detach || s.loop.claimEqualise ≠ some .clearDetach)
          && (j ≠ .pumpOff || s.loop.claimWater ≠ some .clearPumpOff)
        | _ => true
      | _ => true)

/-- While the loop is released and in the safe-state sequence no valve is recorded open, no pump on, and no dose stands
(R119, R148). -/
def releaseKept (s : State) : Bool :=
  match s.loop.release with
  | .released _ | .safeState _ _ => s.wac.valve = .empty && s.wac.pump = .off && s.wac.dose.isNone
  | .free | .pending => true

/-- What the two channels have under way agrees: the contexts, the claims and the transactions in flight. -/
def workKept (s : State) : Bool := contextsKept s && jobsKept s && releaseKept s

/-! ### What a master or a member puts on a line -/

/-- A port that waits for a request frame (R164). -/
def hears (p : Port) (s : State) : Bool := rxOf s p = .hunt

/-- The state with a reply owed at a port (R165, Table 10.6). -/
def owing (p : Port) (code tag : Octet) (status : Status) (results : List Octet) (s : State) : State :=
  setRx p (.replyOwed { code := code + 0x80, tag := tag, status := status, results := results }) s

/-- The command that a request is at a port, where the opcode table has one: a selector of READ ROUNDS or a channel of
CLEAR CHANNEL that no table gives has none. -/
def commandOf (p : Port) (tag : Octet) : Request → Option Instr
  | .plantStatus supply v l h => some (.plantStatus p tag supply v l h)
  | .holdMaintenance => some (.holdMaintenance p tag)
  | .releaseHold => some (.releaseHold p tag)
  | .openWindow b m => some (.openWindow p tag b m)
  | .closeWindow => some (.closeWindow p tag)
  | .readForecast => some (.readForecast p tag)
  | .readString i => some (.readString p tag i)
  | .readRounds n =>
    [.readRoundsQueue p tag, .readRoundsEqualise p tag, .readRoundsWater p tag, .readRoundsSite p tag,
      .readRoundsLoop p tag, .readRoundsDemand p tag][n.toNat]?
  | .readNotices => some (.readNotices p tag)
  | .ackNotices m => some (.ackNotices p tag m)
  | .setNoticeEnables m => some (.setNoticeEnables p tag m)
  | .loopTransaction m c d => some (.loopTransaction p tag m c d)
  | .loopResult => some (.loopResult p tag)
  | .requestRound k i u x r d => some (.requestRound p tag k i u x r d)
  | .cancelRound k i => some (.cancelRound p tag k i)
  | .barString i => some (.barString p tag i)
  | .unbarString i => some (.unbarString p tag i)
  | .clearChannel n => [.clearChannelEqualise p tag, .clearChannelWater p tag][n.toNat]?
  | .takeLoop => some (.takeLoop p tag)
  | .giveLoop => some (.giveLoop p tag)
  | .loopRaw o => some (.loopRaw p tag o)
  | .readDemands => some (.readDemands p tag)
  | .clearOverflow => some (.clearOverflow p tag)
  | .readLogRecord g i => some (.readLogRecord p tag g i)
  | .releaseSegment g => some (.releaseSegment p tag g)
  | .writeSetting i x v => some (.writeSetting p tag i x v)
  | .readSetting i x => some (.readSetting p tag i x)
  | .storeSettings => some (.storeSettings p tag)
  | .setClock t => some (.setClock p tag t)
  | .restart => some (.restart p tag)

/-- A member's reply frame (Table 10.7): address, command, status, length, data, check. -/
def replyFrame (m : MemberNo) (c : LoopCommand) (status : Octet) (data : List Octet) : List Octet :=
  let body := [BitVec.ofNat 8 m.val, c.code, status, BitVec.ofNat 8 data.length] ++ data
  body ++ [-octetSum body]

/-- A returned DEMAND POLL frame (Table 10.7) with the word part given. -/
def returnedPoll (owed : Option (MemberNo × DemandKind)) (word : List Octet) : List Octet :=
  let conf := match owed with
    | some (m, k) => [BitVec.ofNat 8 m.val, k.code]
    | none => [0xFF, 0]
  let body := [0xFF, 0x0F] ++ conf ++ word
  body ++ [-octetSum body]

/-- The octets as a sender puts them on a line. -/
def onLine (octets : List Octet) : List LineChar := octets.map LineChar.clean

/-! ### What one log write leaves (R171, R172) -/

/-- The log after one write: the record with the next sequence number in the next place, the flag of a segment
filled, and the overrun set joined by a full one. -/
def logAfter (r : LogRecord) (l : RoundLog) : RoundLog where
  places := l.places.set l.position (some { r with sequence := l.sequence })
  position := l.position + 1
  sequence := l.sequence + 1
  roundNumber := l.roundNumber
  full := if l.position.val % 16 = 15 then l.full.set (segmentOf l.position) true else l.full
  overrun :=
    if l.full[segmentOf l.position] then l.overrun.set (segmentOf l.position) true else l.overrun

/-- The sources one write sets. -/
def noticesOfWrite (l : RoundLog) : NoticeSet :=
  (if l.full[segmentOf l.position] && !l.overrun[segmentOf l.position] then Notice.logOverrun.mask else 0)
    ||| (if l.position.val % 16 = 15 then Notice.segmentFull.mask else 0)

/-- A set of sources pending in every port (R168). -/
def raiseAll (m : NoticeSet) (s : State) : State :=
  { s with ports :=
      { plant := s.ports.plant.addPending m
        energy := s.ports.energy.addPending m
        service := s.ports.service.addPending m } }

/-! ### What every reset leaves -/

def strapsAt (x : Straps) : Port → StrapPair
  | .plant => x.plant
  | .energy => x.energy
  | .service => x.service

/-- The first transaction of the safe-state sequence (R151): the close of the first installed string in loop order,
else PUMP OFF. -/
def firstSafe (t : State) : Transaction :=
  match stringsInLoopOrder t with
  | i :: _ =>
    { claimant := .safeState (.close i), member := nodeOf i, command := .setValve false,
      cls := t.settings.classes[nodeOf i], holds := 0, retries := 0,
      wait := firstWait t.settings.classes[nodeOf i] }
  | [] =>
    { claimant := .safeState .pumpOff, member := waterUnit, command := .pumpOff,
      cls := t.settings.classes[waterUnit], holds := 0, retries := 0,
      wait := firstWait t.settings.classes[waterUnit] }

/-- The steps of the sequence after the first (R151). -/
def laterSafe (t : State) : List SafeStep :=
  match stringsInLoopOrder t with
  | _ :: rest => rest.map SafeStep.close ++ [.pumpOff, .boost]
  | [] => [.boost]

/-- The loop a reset leaves, the safe-state sequence begun (Table 8.4, R151). -/
def loopAfterReset (t : State) : Loop where
  present := Vector.replicate 10 true
  failures := Vector.replicate 10 0
  inFlight := some (.transaction (firstSafe t))
  claimDemand := none
  claimSweep := none
  claimWater := none
  claimEqualise := none
  plantSlot := .empty
  serviceSlot := .empty
  release := .safeState false (some (laterSafe t))
  releaseTimer := 0

/-- What power-on and pin reset leave alike (R37, R38, R59, R84, R122, R134, R152, R162, R163, R170, R177): `t`
after a reset of `s`, with the sources `raised` pending. That the copy of the store stands as it did, after a rewrite cut
short too, is the model's choice (assumption 54). -/
def leftByReset (straps : Straps) (raised : NoticeSet) (s t : State) : Prop :=
  t.time = Timebase.reset ∧ t.sweep = Sweep.reset ∧ t.schedule = ScheduleTimer.reset ∧ t.queue = []
    ∧ t.eqc = Eqc.reset ∧ t.wac = Wac.reset ∧ t.plant = PlantUnit.reset ∧ t.loop = loopAfterReset t
    ∧ t.demand = { DemandUnit.reset with
        line := s.demand.line
        list := Vector.ofFn fun i => if t.settings.installed[i] then some 0 else none }
    ∧ (∀ p, t.ports.get p =
        { rate := lineRateOf (strapsAt straps p), rx := .hunt, enabled := 0
          pending := (if s.store.checkHolds then 0 else Notice.settingsStored.mask) ||| raised })
    ∧ t.settings = (if s.store.checkHolds then s.store.copy else Settings.factory)
    ∧ t.store = { s.store with storing := false, modified := false, defaulted := !s.store.checkHolds }
    ∧ t.free = s.free ∧ t.pending = s.pending

/-! ### When a tick only counts -/

/-- No event waits to be taken: a tick then advances the counters and nothing else. -/
def nothingDue (s : State) : Bool :=
  !s.time.minuteDue && !s.time.hourDue
    && (List.finRange 8).all (fun i => (recordOf s i).state ≠ .settle 0)
    && !(s.plant.windowOpen && s.plant.remaining = 0)
    && !s.sweep.matchDue && !s.schedule.matchDue && !s.plant.staleDue
    && (match s.eqc.round with
      | some r => !r.timer.ended && (match r.pause with | some p => !p.expired | none => true)
      | none => true)
    && (match s.wac.dose with
      | some d => !d.maxReached && (match d.pollTimer with
        | some t => t < Config.dosePollInterval
        | none => true)
      | none => true)
    && (match s.wac.pollTimer with | some t => t < Config.reservoirPollInterval | none => true)
    && (match s.loop.release with | .released b => !b | _ => true)
    && (List.finRange 8).all (fun i => s.demand.list[i] ≠ some 0)
    && !(s.demand.poll = .idle && pollWanted s)

end Sys2Proof.Machine
end

