-- ==== Sys2Proof/Certificates/Slice0/Obligations.lean ====
section
/-! DEFINITION. The statements for the provers, from the numbered rules of the manual. Where a statement says that a
request is answered, the port stands in HUNT and the request is the whole frame; `judge` is the dispatch judgement
that follows a change of a condition, and has statements of its own. -/

open Sys2Proof Sys2Proof.Machine

/-! ### The queue of commands -/

/-- A command at the front of the queue is taken with the queue's rest, and an empty queue idles (the model's choice for
the empty queue: assumption 32). Every command answers a next state, whatever the state, and leaves the commands that
wait as they are. -/
def Obligations.StepTakesTheFrontCommand : Prop :=
  (∀ s : State, (s.pending = [] → step s = .next s)
    ∧ ∀ (c : Instr) (rest : List Instr), s.pending = c :: rest →
        step s = exec c { s with pending := rest })
  ∧ ∀ (c : Instr) (s : State), ∃ t : State, exec c s = .next t ∧ t.pending = s.pending

/-! ### Resets -/

/-- Power-on (R20, R174, R178): retention memory is cleared and the rest is as after any reset (R37, R59, R84, R122,
R134, R152, R162, R170, R177). By the model's choices the strap levels are operands of the command (assumption 11), the
DEMAND line keeps its level over a reset (assumption 10), no claim of the Demand Unit stands right after it (assumption
38), the count of free choices goes on (assumption 2), and the copy of the store stands as it did, after a rewrite cut
short too (assumption 54). -/
def Obligations.PowerOnLeaves : Prop :=
  ∀ (straps : Straps) (s : State), ∃ t : State, exec (.powerOn straps) s = .next t
    ∧ leftByReset straps 0 s t
    ∧ t.clock = none
    ∧ t.strings = Vector.replicate 8 StringRecord.powerOn
    ∧ t.log =
        { places := (Vector.replicate 64 none).set 0 (some (LogRecord.restart 0 .powerOn none))
          position := 1, sequence := 1, roundNumber := 0
          full := Vector.replicate 4 false, overrun := Vector.replicate 4 false }

/-- Pin reset (R21, R174, R178): histories, bars, the log and the clock are kept, and the RESTART record is written; the
rest is as after any reset (R37, R59, R84, R122, R134, R152, R162, R170, R177). By the model's choices the strap levels
are operands of the command (assumption 11), the DEMAND line keeps its level over a reset (assumption 10), no claim of
the Demand Unit stands right after it (assumption 38), the count of free choices goes on (assumption 2), and the copy of
the store stands as it did, after a rewrite cut short too (assumption 54). -/
def Obligations.PinResetLeaves : Prop :=
  ∀ (straps : Straps) (s : State), ∃ t : State, exec (.pinReset straps) s = .next t
    ∧ leftByReset straps (noticesOfWrite s.log) s t
    ∧ t.clock = s.clock
    ∧ t.log = logAfter (LogRecord.restart 0 .pinRestart s.clock) s.log
    ∧ ∀ i : StringNo, recordOf t i =
        { recordOf s i with
          state := match (recordOf s i).state.barCause, (recordOf s i).state.pendingBar with
            | some c, _ => .barred c
            | none, some c => .barred c
            | none, none => .float
          voltage := 0, current := 0, temperature := 0, age := 65535, levelLow := false, cells := none }

/-- RESTART is answered DONE, and the pin reset comes when that reply has been sent; after any other reply the port
enters RESYNC (R165, R179). By the model's choices REPLY_SENT carries the strap levels that a reset samples (assumption
11), and with no reply owed it does nothing (assumption 1). -/
def Obligations.ReplySentAndRestart : Prop :=
  (∀ (tag : Octet) (s : State), hears .service s →
    exec (.restart .service tag) s = .next (owing .service 0x1E tag .done [] s))
  ∧ (∀ (p : Port) (straps : Straps) (s : State) (r : Reply), rxOf s p = .replyOwed r →
      exec (.replySent p straps) s =
        if r.code = 0x9E ∧ r.status = .done then exec (.pinReset straps) s
        else .next (setRx p .resync s))
  ∧ ∀ (p : Port) (straps : Straps) (s : State), (∀ r, rxOf s p ≠ .replyOwed r) →
      exec (.replySent p straps) s = .next s

/-- What every reachable state keeps holds right after power-on. That the copy of the store holds the factory values
there is the model's choice (assumption 12). -/
def Obligations.InvariantsHoldAtReset : Prop :=
  (queueKept State.reset && queueClearOfBars State.reset && fifoKept State.reset
    && logConsecutive State.reset.log && recordsInRange State.reset && settingsKept State.reset
    && settleKept State.reset
    && holdersKept State.reset && workKept State.reset) = true

/-! ### The site tick -/

/-- The counters of the site tick, in every state: the clock (R178), the tick count with the minute and the hour (R5,
R11), the sweep counter (R22), the schedule counter (R38), the age of the plant status record (R127) and the
temperature ages (R3). The marks minuteDue, hourDue and matchDue, by which a tick hands an event over to the event's own
command, are the model's choice (assumption 8). -/
def Obligations.SiteTickCounts : Prop :=
  ∀ s : State, ∃ t : State, exec .siteTick s = .next t
    ∧ t.clock = s.clock.map (· + 1)
    ∧ t.time =
        { ticks := (s.time.ticks + 1) % 3600
          minuteDue := (s.time.ticks + 1) % 3600 % 60 = 0
          hourDue := (s.time.ticks + 1) % 3600 = 0 }
    ∧ t.sweep.counter =
        (if s.settings.sweepInterval ≤ s.sweep.counter + 1 then 0 else s.sweep.counter + 1)
    ∧ t.sweep.matchDue = decide (s.settings.sweepInterval ≤ s.sweep.counter + 1)
    ∧ t.schedule.counter =
        (if s.settings.scheduleCompare ≤ s.schedule.counter + 1 then 0 else s.schedule.counter + 1)
    ∧ t.schedule.matchDue = decide (s.settings.scheduleCompare ≤ s.schedule.counter + 1)
    ∧ t.plant.age = min 65535 (s.plant.age + 1)
    ∧ (∀ i : StringNo, (recordOf t i).age =
        if isInstalled s i then min 65535 ((recordOf s i).age + 1) else (recordOf s i).age)
    ∧ t.settings = s.settings ∧ t.store = s.store

/-- A tick at which no event is due changes the counters and timers and nothing else: the period timer and pause
elapsed (R67, R71, R73), dose elapsed and the poll timers (R104, R108, R109), the release timer (R149), the waits of the
reconfiguration list (R158), and what SiteTickCounts names. The marks expired, maxReached and those of a minute, a match,
the release limit and STALE, and the premise nothingDue over them, are the model's choice (assumption 8), and so is the
field aged within plant (assumption 29). -/
def Obligations.QuietTickRunsTheTimers : Prop :=
  ∀ s : State, nothingDue s → exec .siteTick s = .next
    { s with
      time := s.time.tick
      clock := s.clock.map (· + 1)
      strings := Vector.ofFn fun i =>
        { recordOf s i with
          age := if isInstalled s i then min 65535 ((recordOf s i).age + 1) else (recordOf s i).age }
      sweep := s.sweep.tick s.settings.sweepInterval
      schedule := s.schedule.tick s.settings.scheduleCompare
      eqc := { s.eqc with round := s.eqc.round.map fun r =>
        { r with
          ticks := r.ticks + 1
          timer := if r.timer.running then { r.timer with count := r.timer.count + 1 } else r.timer
          pause :=
            if r.outcome.isNone then
              r.pause.map fun p =>
                { p with
                  elapsed := min 65535 (p.elapsed + 1)
                  expired := s.settings.resumeLimit * 60 ≤ min 65535 (p.elapsed + 1) }
            else r.pause } }
      wac := { s.wac with
        pollTimer := s.wac.pollTimer.map (· + 1)
        dose := s.wac.dose.map fun d =>
          if s.wac.state = .dose ∧ d.outcome = none then
            { d with
              ticks := d.ticks + 1
              elapsed := some (min 65535 (d.elapsed.getD 0 + 1))
              pollTimer := d.pollTimer.map (· + 1)
              maxReached := s.settings.maxDoseTime * 60 ≤ min 65535 (d.elapsed.getD 0 + 1) }
          else { d with ticks := d.ticks + 1 } }
      plant := s.plant.tick s.settings.staleness
      loop := match s.loop.release with
        | .released _ =>
          { s.loop with
            release := .released (s.settings.releaseLimit * 60 ≤ min 65535 (s.loop.releaseTimer + 1))
            releaseTimer := min 65535 (s.loop.releaseTimer + 1) }
        | _ => s.loop
      demand := { s.demand with list := s.demand.list.map (Option.map (· - 1)) } }

/-- The minute counts down SETTLE strings and an OPEN window; the site hour advances the present hours of installed
strings; a settle run down to 0 ends in FLOAT; each comes once, at the tick it fell due (R5, R11, R123). The marks
minuteDue and hourDue are the model's choice (assumption 8), and so is that a command whose event is not due changes
nothing (assumption 1). -/
def Obligations.MinuteHourAndSettle : Prop :=
  (∀ s : State, exec .siteMinute s = .next
    (if s.time.minuteDue then
      { s with
        time := { s.time with minuteDue := false }
        strings := s.strings.map fun r =>
          match r.state with
          | .settle n => { r with state := .settle (n - 1) }
          | _ => r
        plant := if s.plant.windowOpen then { s.plant with remaining := s.plant.remaining - 1 } else s.plant }
    else s))
  ∧ (∀ s : State, exec .siteHour s = .next
    (if s.time.hourDue then
      { s with
        time := { s.time with hourDue := false }
        strings := Vector.ofFn fun i =>
          if isInstalled s i then
            { recordOf s i with
              hoursEqualise := (recordOf s i).hoursEqualise.map fun h => min 65535 (h + 1)
              hoursWater := (recordOf s i).hoursWater.map fun h => min 65535 (h + 1) }
          else recordOf s i }
    else s))
  ∧ ∀ (i : StringNo) (s : State), exec (.settleEnd i) s = .next
    (if (recordOf s i).state = .settle 0 then judge (modString i (fun r => { r with state := .float }) s)
    else s)

/-! ### Dispatch and WINDOW NEEDED -/

/-- Dispatch is judged by each IDLE channel and WINDOW NEEDED after it (R53 to R56, R131). Each channel takes the first
entry of its kind, in queue order, that meets its conditions; with none, or while its reservoir check is out, it claims
nothing. WINDOW NEEDED holds where an EQUALISE entry lacks the window alone, and newly found it raises its notice. That
the Equalise Channel judges first where the two do not contest one string is the model's choice (assumption 20); where
they do, a free value gives the order (assumption 4). That a check outstanding holds the judgement that R55 has follow the
entry's removal is the model's choice too (assumption 26). Queue order is every URGENT entry and then every NORMAL one, each in arrival
order (R44). -/
def Obligations.DispatchIsJudged : Prop :=
  ∀ s : State,
    let ready := fun e : QueueEntry =>
      isInstalled s e.string && (recordOf s e.string).state = .float && isPresent s (nodeOf e.string)
    let calm : Bool := !s.plant.discharge && !s.plant.hold && s.loop.release = .free
    let butWindow := fun e : QueueEntry =>
      e.kind = .equalise && ready e && s.eqc.state = .idle && isPresent s boostUnit && !s.plant.stale && calm
    let forWater := fun e : QueueEntry =>
      e.kind = .water && ready e && s.wac.state = .idle && isPresent s waterUnit && !s.wac.reservoirLow && calm
    let a := (queueOrder s.queue).find? fun e => butWindow e && s.plant.windowOpen
    let b := if s.wac.check = none then (queueOrder s.queue).find? forWater else none
    let contest : Bool := match a, b with | some x, some y => x.string = y.string | _, _ => false
    let needed := !s.plant.windowOpen && s.queue.any butWindow
    let noted := modPlant (fun w => { w with windowNeeded := needed }) s
    let u := { s with free := s.free + 1 }
    queueOrder s.queue =
      (s.queue.filter fun e => e.urgency = .urgent) ++ (s.queue.filter fun e => e.urgency = .normal)
    ∧ (∀ e : QueueEntry, eligibleEqualise s e = (butWindow e && s.plant.windowOpen) ∧ eligibleWater s e = forWater e)
    ∧ (a = none → judgeEqc s = s) ∧ (b = none → judgeWac s = s)
    ∧ (∀ e, a = some e → ∀ n, e.work = .equalise n → judgeEqc s = beginRound e n s)
    ∧ (∀ e, b = some e → judgeWac s = beginCheck e.string s)
    ∧ judge s = judgeWindowNeeded
        (if contest then
          if Config.waterJudgesFirst s.free then judgeEqc (judgeWac u) else judgeWac (judgeEqc u)
        else judgeWac (judgeEqc s))
    ∧ judgeWindowNeeded s = (if needed && !s.plant.windowNeeded then raise .windowNeeded noted else noted)
    ∧ (a = none → b = none →
      judge s = if needed && !s.plant.windowNeeded then raise .windowNeeded noted else noted)

/-- The Equalise Channel's claim: the first eligible EQUALISE entry in queue order leaves the queue, its string is held,
the next round number is drawn, the round context is created with the recipe's values as they stand and ATTACH is
claimed (R7, R53, R54, R56, R60, R61, R63, R85). -/
def Obligations.EqualiseClaimBeginsTheRound : Prop :=
  ∀ (s : State) (e : QueueEntry), (queueOrder s.queue).find? (eligibleEqualise s) = some e →
    ∃ rn : Fin 4, e.work = .equalise rn ∧ judgeEqc s =
      { s with
        queue := s.queue.filter fun x => !x.same .equalise e.string
        strings := s.strings.set e.string { recordOf s e.string with state := .equalise none }
        log := { s.log with roundNumber := s.log.roundNumber + 1 }
        eqc := { s.eqc with
          state := .connect
          round := some
            { number := s.log.roundNumber + 1, string := e.string, recipeNo := rn
              recipe := s.settings.recipes[rn], origin := e.origin, start := s.clock, ticks := 0
              pauses := PauseSet.none, pauseOwed := false, pause := none
              timer := { count := 0, length := 0, running := false }
              raiseElapsed := 0, holdElapsed := 0, failures := 0, outcome := none, faultAtEnd := false
              acct := Accounting.fresh } }
        loop := { s.loop with claimEqualise := some (.attach e.string) } }

/-- The Water Channel checks the reservoir before it claims (R55, R105): the check is made for the first eligible entry
in queue order. An answer clears a reservoir-low flag at the reserve plus 10 (R104); one below the reserve plus the entry's
dose limit sets the flag and leaves the entry; any other lets an entry that still stands and is still eligible begin its
dose (R56, R102). An entry that has left, or is eligible no more, and a check that did not answer bring no claim. That the
entry is known again by a mark, so that another posted for its string is not taken for it, and that the flag is judged
before the entry, are the model's reading (assumption 26). That a low reading does not set the flag once the entry has left
the queue is the model's choice (assumption 50). -/
def Obligations.WaterClaimAfterTheReservoirCheck : Prop :=
  (∀ s : State, s.wac.check = none → ∀ e : QueueEntry,
    (queueOrder s.queue).find? (eligibleWater s) = some e →
      judgeWac s =
        { s with
          queue := s.queue.map fun x => if x.same .water e.string then { x with checked := true } else x
          wac := { s.wac with check := some e.string }
          loop := { s.loop with claimWater := some .check } })
  ∧ (∀ (s : State) (o : TxOutcome), (∀ d, o ≠ .answer d) →
    checkEnded o s = { s with wac := { s.wac with check := none } })
  ∧ ∀ (s : State) (data : List Octet) (i : StringNo), s.wac.check = some i →
      let reading := (halfAt data 0).toNat
      let cleared : Bool := s.wac.reservoirLow && decide (s.settings.reserve + 10 ≤ reading)
      let read := { s with wac := { s.wac with
        check := none, reservoir := some reading
        reservoirLow := s.wac.reservoirLow && !cleared
        pollTimer := if cleared then none else s.wac.pollTimer } }
      ((∀ e : QueueEntry, findEntry .water i s.queue = some e → e.checked = false) →
        checkEnded (.answer data) s = read)
      ∧ ∀ e : QueueEntry, findEntry .water i s.queue = some e → e.checked →
        let limit := e.work.field
        (reading * 100 < s.settings.reserve * 100 + limit →
          checkEnded (.answer data) s =
            if read.wac.reservoirLow then read
            else { read with wac := { read.wac with
              reservoirLow := true
              pollTimer := if s.wac.state = .idle then some 0 else read.wac.pollTimer } })
        ∧ (s.settings.reserve * 100 + limit ≤ reading * 100 → eligibleWater read e = false →
          checkEnded (.answer data) s = read)
        ∧ (s.settings.reserve * 100 + limit ≤ reading * 100 → eligibleWater read e →
          checkEnded (.answer data) s =
            { s with
              queue := s.queue.filter fun x => !x.same .water i
              strings := s.strings.set i { recordOf s i with state := .water none }
              log := { s.log with roundNumber := s.log.roundNumber + 1 }
              wac := { read.wac with
                state := .open, pollTimer := none
                dose := some
                  { number := s.log.roundNumber + 1, string := i, limit := limit, origin := e.origin
                    start := s.clock, ticks := 0, delivered := 0, lastChange := none, elapsed := none
                    pumpOnSent := false, flowActive := none, outcome := none, faultAtEnd := false
                    pollTimer := none, maxReached := false } }
              loop := { s.loop with claimWater := some (.openValve i) } })

/-! ### The sweep -/

/-- A sweep begun (R25): the summaries of the installed strings in loop order, with their cells where the divider count
comes to 0, the first item claimed; with no string installed it is over at once. -/
def sweepBegun (s : State) : State :=
  let count := if s.settings.cellDivider ≤ s.sweep.dividerCount then 0 else s.sweep.dividerCount
  let strings := (s.settings.loopMap.toList.filterMap stringOf).filter fun i => s.settings.installed[i]
  let items := strings.flatMap fun i => if count = 0 then [SweepItem.summary i, .cells i] else [.summary i]
  { s with
    sweep := { s.sweep with
      dividerCount := if s.settings.cellDivider ≤ count + 1 then 0 else count + 1
      run := if items.isEmpty then none else some items }
    loop := { s.loop with claimSweep := match items with | it :: _ => some it | [] => s.loop.claimSweep } }

/-- The scanner goes on with the items that remain (R23, R26): those of strings no longer installed are skipped as they
are reached, when the claim is placed (the model's choice: assumption 35), the next one is claimed, and at the end of
the sweep a due one begins. -/
def sweepGoesOn (items : List SweepItem) (s : State) : State :=
  match items.dropWhile fun it => !s.settings.installed[it.string] with
  | it :: rest =>
    { s with
      sweep := { s.sweep with run := some (it :: rest) }
      loop := { s.loop with claimSweep := some it } }
  | [] =>
    if s.sweep.due then sweepBegun { s with sweep := { s.sweep with run := none, due := false } }
    else { s with sweep := { s.sweep with run := none } }

/-- A match with no sweep in progress starts one over the installed strings in loop order, a cell sweep where the divider
count says so; a match during a sweep makes the next one due and late, and a flag newly set raises CELL ALARM (R23,
R24, R25). Without a match handed over by the tick it does nothing, which is the model's choice (assumptions 1 and 8). A
failed READ SUMMARY drops the node's READ CELLS, a failed READ CELLS and the end of a valve's close drop nothing, and the
scanner goes on with what remains, a due sweep beginning at the end (R23, R26, R29, R30). That an item is reached, and its
string's installed flag tested, when its claim is placed is the model's choice (assumption 35). -/
def Obligations.SweepMatchStartsOrIsLate : Prop :=
  (∀ s : State, s.sweep.matchDue = false → exec .sweepMatch s = .next s)
  ∧ (∀ s : State, s.sweep.matchDue → s.sweep.run = none →
      exec .sweepMatch s = .next
        (sweepBegun { s with sweep := { s.sweep with matchDue := false, late := s.sweep.late && s.sweep.due } }))
  ∧ (∀ s : State, s.sweep.matchDue → s.sweep.run ≠ none →
      exec .sweepMatch s = .next
        (let t := modSweep (fun w => { w with matchDue := false, due := true, late := true }) s
          if s.sweep.late then t else raise .cellAlarm t))
  ∧ ∀ (s : State) (i : StringNo) (it : SweepItem) (rest : List SweepItem) (data : List Octet) (o : TxOutcome),
      s.sweep.run = some (it :: rest) →
      sweepItemEnded (.closeValve i) (.answer data) s = sweepGoesOn rest s
      ∧ ((∀ d, o ≠ .answer d) →
        sweepItemEnded (.summary i) o s = sweepGoesOn (rest.filter fun x => x ≠ .cells i) s
        ∧ sweepItemEnded (.cells i) o s = sweepGoesOn rest s
        ∧ sweepItemEnded (.closeValve i) o s = sweepGoesOn rest s)

/-- The state while the transaction of a sweep item's installed string is awaited, the loop FREE or its release PENDING. -/
def sweepAwaits (it : SweepItem) (c : LoopCommand) (rest : List SweepItem) (s : State) : Bool :=
  s.sweep.run = some (it :: rest) && s.settings.installed[it.string]
    && (s.loop.release = .free || s.loop.release = .pending)
    && (match s.loop.inFlight with
      | some (.transaction t) =>
        t.claimant = .sweep it && t.member = nodeOf it.string && t.command = c && t.wait = .reply
      | _ => false)

/-- What the end of a sweep item's answered transaction leaves in scanner and loop: the sweep gone on, and the node present
with no failure (R26, R139, R140). -/
def nextItem (it : SweepItem) (rest : List SweepItem) (s : State) : State :=
  sweepGoesOn rest { s with loop := { s.loop with
    inFlight := none
    present := s.loop.present.set (nodeOf it.string) true
    failures := s.loop.failures.set (nodeOf it.string) 0 } }

/-- With the loop FREE or its release PENDING, an answered READ SUMMARY replaces the four readings of its string
together, calibrated and clamped, sets the temperature age to 0 and adds the discharge to the throughput; a valve
reported open that the valve record does not name is closed next (R2, R4, R27, R28, R29). That the next item is reached,
and its string's installed flag tested, when its claim is placed is the model's choice (assumption 35). -/
def Obligations.SummaryIsWritten : Prop :=
  ∀ (s : State) (i : StringNo) (rest : List SweepItem) (v is th : Half) (low valve : Bool),
    sweepAwaits (.summary i) .readSummary rest s →
      let data := octetsOfHalf v ++ octetsOfHalf is ++ octetsOfHalf th ++ encFlag low ++ encFlag valve
      let r := recordOf s i
      let dt := if r.age = 65535 then 0 else min r.age (2 * s.settings.sweepInterval)
      let added := r.remainder + (if is.toInt < -10 then is.toInt.natAbs * dt else 0)
      let rest' := if valve && !s.wac.valve.holds i then .closeValve i :: rest else rest
      exec (.loopReply (onLine (replyFrame (nodeOf i) .readSummary 0 data))) s = .next
        (judgeDemand (judge (nextItem (.summary i) rest' (modString i (fun r =>
          { r with
            voltage := (clampTo 0 65535 (v.toNat + s.settings.calibration[i])).toNat
            current := is.toInt
            temperature := clampTo (-400) 1250 th.toInt
            levelLow := low
            age := 0
            throughput :=
              if 1000000 ≤ r.throughput then r.throughput
              else min 1000000 (r.throughput + added / 3600)
            remainder := if 1000000 ≤ r.throughput then r.remainder else added % 3600 }) s))))

/-- With the loop FREE or its release PENDING, an answered READ CELLS replaces the cell list whole, each code with its
offset clamped to 0 to 4095 mV; a FLOAT string whose spread then exceeds the limit is posted URGENT with origin SWEEP
and its default recipe, and CELL ALARM is set with the string and the spread as its detail, whatever the post's result
(R31, R32, R33). That the next item is reached, and its string's installed flag tested, when its claim is placed is the
model's choice (assumption 35). -/
def Obligations.CellsAreWrittenAndChecked : Prop :=
  ∀ (s : State) (i : StringNo) (rest : List SweepItem) (codes : Vector Half 24),
    sweepAwaits (.cells i) .readCells rest s →
      let cells := codes.map fun c =>
        (clampTo 0 4095 (c.toNat + Int.tdiv s.settings.calibration[i] 24)).toNat
      let spread := cells.toList.foldl max 0 - cells.toList.foldl min 4095
      let u := modString i (fun r => { r with cells := some cells })
        { s with loop := { s.loop with
          inFlight := none
          present := s.loop.present.set (nodeOf i) true
          failures := s.loop.failures.set (nodeOf i) 0 } }
      let checked :=
        if (recordOf s i).state = .float ∧ s.settings.spreadLimit < spread then
          raise .cellAlarm (modSweep (fun w => { w with alarm := some (i, spread) })
            (post { work := .equalise s.settings.defaultRecipe[i], string := i, urgency := .urgent
                    origin := .sweep } u).1)
        else u
      exec (.loopReply (onLine (replyFrame (nodeOf i) .readCells 0 (codes.toList.flatMap octetsOfHalf)))) s
        = .next (judgeDemand (judge (nextItem (.cells i) rest checked)))

/-! ### Schedules, posts and the Round Queue -/

/-- The traversal of the Schedule List (R38, R40 to R43): the entries are judged in index order, each from the record as
the ones before it have left it; an enabled one that is due and names an installed string posts, and dispatch is judged
at the post. So a traversal with one entry enabled comes to that entry alone, and one with none to nothing. Without a
match handed over by the tick nothing is traversed, which is the model's choice (assumptions 1 and 8). -/
def Obligations.ScheduleMatchPostsWhatIsDue : Prop :=
  (∀ s : State, s.schedule.matchDue = false → exec .scheduleMatch s = .next s)
  ∧ ∀ s : State, s.schedule.matchDue →
      let u := { s with schedule := { s.schedule with matchDue := false } }
      let taken := fun (t : State) (k : Fin 24) =>
        let e := s.settings.schedule[k]
        let r := recordOf t e.string
        let due := match e.work with
          | .equalise _ trigger =>
            r.hoursEqualise.all (e.interval ≤ ·) || (trigger ≠ 0 && 10 * trigger ≤ r.throughput)
          | .water _ => r.hoursWater.all (e.interval ≤ ·)
        let entry : QueueEntry :=
          { work := match e.work with | .equalise n _ => .equalise n | .water n => .water n
            string := e.string, urgency := .normal, origin := .schedule }
        if e.enabled && isInstalled s e.string && due then judge (post entry t).1 else t
      exec .scheduleMatch s = .next ((List.finRange 24).foldl taken u)
      ∧ (∀ k : Fin 24, (∀ j : Fin 24, j ≠ k → s.settings.schedule[j].enabled = false) →
        exec .scheduleMatch s = .next (taken u k))
      ∧ (∀ j k : Fin 24, j < k →
        (∀ n : Fin 24, n ≠ j → n ≠ k → s.settings.schedule[n].enabled = false) →
          exec .scheduleMatch s = .next (taken (taken u j) k))

/-- A post is judged in the order of R46 by the standing of R19: refused ABSENT, BARRED or RUNNING; merged into the entry
of its kind and string (R47); added where there is room (R48); at a full queue refused FULL, or added in the place of
the youngest NORMAL entry, which is logged DISPLACED (R49). A WATER post's dose limit is clamped first (R45). -/
def Obligations.PostIsJudged : Prop :=
  ∀ (s : State) (e : QueueEntry),
    let st := (recordOf s e.string).state
    let work := match e.work with
      | .equalise n => .equalise n
      | .water n => .water (max 1 (min n s.settings.dmax))
    let p := { e with work := work }
    post e s =
      if !isInstalled s e.string || !isPresent s (nodeOf e.string) then (s, .refused .absent)
      else if st.barCause.isSome || st.pendingBar.isSome then (s, .refused .barred)
      else if (match e.kind, st with
          | .equalise, .equalise _ | .equalise, .settle _ | .water, .water _ => true
          | _, _ => false) then (s, .refused .running)
      else if s.queue.any (fun x => x.same e.kind e.string) then
        ({ s with queue := s.queue.map fun x =>
            if x.same e.kind e.string then
              { x with
                urgency := if x.urgent || e.urgent then .urgent else .normal
                work := match x.work, p.work with
                  | .water a, .water b => .water (max a b)
                  | w, _ => w }
            else x }, .merged)
      else if s.queue.length < 12 then ({ s with queue := s.queue ++ [p] }, .added)
      else if !e.urgent then (s, .refused .full)
      else match (s.queue.filter fun x => !x.urgent).getLast? with
        | none => (s, .refused .full)
        | some old =>
          let u := { s with queue := s.queue.filter fun x => !x.same old.kind old.string }
          let v := logWrite (entryRecord .displaced none none old u) u
          ({ v with queue := u.queue ++ [p] }, .added)

/-- REQUEST ROUND from Port S (R50): a string, a given recipe or a given dose limit out of range is refused RANGE and
posts nothing, and a given field of the other kind that is out of range is refused too, by the model's reading
(assumption 31); an absent recipe is the string's default and an absent dose limit is Dmax; the reply is the post's
result, and dispatch is judged after a post taken; the octets of the entry it returns are the model's choice (assumption
27). From another port it is refused NOT PERMITTED. -/
def Obligations.RequestRoundPosts : Prop :=
  (∀ (s : State) (tag kind string urgency presence recipe : Octet) (dose : Half), hears .service s →
    kind.toNat ≤ 1 ∧ urgency.toNat ≤ 1 ∧ presence.toNat ≤ 3 →
    8 ≤ string.toNat ∨ (presence.getLsbD 0 ∧ 4 ≤ recipe.toNat)
        ∨ (presence.getLsbD 1 ∧ (dose = 0 ∨ 10000 < dose.toNat)) →
      exec (.requestRound .service tag kind string urgency presence recipe dose) s
        = .next (owing .service 0x0E tag .range [] s))
  ∧ (∀ (s : State) (tag kind urgency presence recipe : Octet) (dose : Half) (i : StringNo),
      hears .service s → kind.toNat ≤ 1 ∧ urgency.toNat ≤ 1 ∧ presence.toNat ≤ 3 →
      (presence.getLsbD 0 = false ∨ recipe.toNat < 4)
        ∧ (presence.getLsbD 1 = false ∨ (1 ≤ dose.toNat ∧ dose.toNat ≤ 10000)) →
      let k : Kind := if kind = 0 then .equalise else .water
      let e : QueueEntry :=
        { work :=
            if kind = 0 then
              .equalise (if presence.getLsbD 0 then Fin.ofNat 4 recipe.toNat
                else s.settings.defaultRecipe[i])
            else .water (if presence.getLsbD 1 then dose.toNat else s.settings.dmax)
          string := i, urgency := if urgency = 0 then .normal else .urgent, origin := .request }
      let t := (post e s).1
      exec (.requestRound .service tag kind (BitVec.ofNat 8 i.val) urgency presence recipe dose) s = .next
        (match (post e s).2 with
          | .refused st => owing .service 0x0E tag st [] t
          | .added => owing .service 0x0E tag .done (postedResults k i t) (judge t)
          | .merged => owing .service 0x0E tag .merged (postedResults k i t) (judge t)))
  ∧ ∀ (s : State) (p : Port) (tag kind string urgency presence recipe : Octet) (dose : Half), p ≠ .service →
      hears p s → exec (.requestRound p tag kind string urgency presence recipe dose) s
        = .next (owing p 0x0E tag .notPermitted [] s)

/-- CANCEL ROUND from Port S (R52): a waiting entry is removed and logged CANCELLED with cause REQUEST; an undecided round
of that kind on the string is directed to end CANCELLED; a decided one is refused BUSY; otherwise NOT FOUND. From
another port it is refused NOT PERMITTED. -/
def Obligations.CancelRoundWithdraws : Prop :=
  (∀ (s : State) (tag kind string : Octet), hears .service s → kind.toNat ≤ 1 → 8 ≤ string.toNat →
    exec (.cancelRound .service tag kind string) s = .next (owing .service 0x0F tag .range [] s))
  ∧ (∀ (s : State) (tag : Octet) (k : Kind) (i : StringNo), hears .service s →
      exec (.cancelRound .service tag (if k = .equalise then 0 else 1) (BitVec.ofNat 8 i.val)) s = .next
        (match findEntry k i s.queue with
          | some e =>
            let u := { s with queue := s.queue.filter fun x => !x.same k i }
            owing .service 0x0F tag .done []
              (judge (logWrite (entryRecord .cancelled (some .cancelled) (some .request) e u) u))
          | none =>
            if k = .equalise ∧ (recordOf s i).state.holder = .eqc then
              (if (openRound s).isSome then
                owing .service 0x0F tag .accepted [] (judge (decideEqualise .cancelled s))
              else owing .service 0x0F tag .busy [] s)
            else if k = .water ∧ (recordOf s i).state.holder = .wac then
              (if (openDose s).isSome then
                owing .service 0x0F tag .accepted [] (judge (decideWater .cancelled s))
              else owing .service 0x0F tag .busy [] s)
            else owing .service 0x0F tag .notFound [] s))
  ∧ ∀ (s : State) (p : Port) (tag kind string : Octet), p ≠ .service → hears p s →
      exec (.cancelRound p tag kind string) s = .next (owing p 0x0F tag .notPermitted [] s)

/-! ### Bars -/

/-- A bar (R12, R13, R14, R51). On a string that is not installed it is not taken. A FLOAT or SETTLE string is BARRED at
once and a held string takes it as pending, DETACH FAILED and CLOSE FAILED alone replacing an earlier cause; either
way every entry naming the string is removed in queue order, each logged CANCELLED with cause BARRED. A first pending
bar aborts the round of the holding channel. On a BARRED string only the cause may change. -/
def Obligations.BarIsTaken : Prop :=
  ∀ (s : State) (i : StringNo) (c : BarCause),
    let put := fun x : StringState => modString i (fun r => { r with state := x }) s
    let join := fun old : BarCause => if c = .detachFailed ∨ c = .closeFailed then c else old
    let cleared := fun t : State =>
      ((queueOrder t.queue).filter fun e => e.string = i).foldl (fun u e =>
        let v := { u with queue := u.queue.filter fun x => !x.same e.kind e.string }
        logWrite (entryRecord .cancelled (some .cancelled) (some .barred) e v) v) t
    bar i c s =
      if !isInstalled s i then s
      else match (recordOf s i).state with
        | .float | .settle _ => cleared (put (.barred c))
        | .equalise none => decideEqualise (.aborted c.abortCause) (cleared (put (.equalise (some c))))
        | .water none => decideWater (.aborted c.abortCause) (cleared (put (.water (some c))))
        | .equalise (some old) => cleared (put (.equalise (some (join old))))
        | .water (some old) => cleared (put (.water (some (join old))))
        | .barred old => put (.barred (join old))

/-- BAR STRING and UNBAR STRING from Port S, judged in the order of their tables (R15, R16): BAR STRING bars BY REQUEST,
and UNBAR STRING returns a BARRED string to FLOAT with its readings and history. From another port each is refused NOT
PERMITTED. -/
def Obligations.BarAndUnbarAnswer : Prop :=
  (∀ (s : State) (tag string : Octet), hears .service s → 8 ≤ string.toNat →
    exec (.barString .service tag string) s = .next (owing .service 0x10 tag .range [] s)
    ∧ exec (.unbarString .service tag string) s = .next (owing .service 0x11 tag .range [] s))
  ∧ (∀ (s : State) (p : Port) (tag string : Octet), p ≠ .service → hears p s →
    exec (.barString p tag string) s = .next (owing p 0x10 tag .notPermitted [] s)
    ∧ exec (.unbarString p tag string) s = .next (owing p 0x11 tag .notPermitted [] s))
  ∧ ∀ (s : State) (tag : Octet) (i : StringNo), hears .service s →
      (exec (.barString .service tag (BitVec.ofNat 8 i.val)) s = .next
        (if !isInstalled s i then owing .service 0x10 tag .absent [] s
        else owing .service 0x10 tag
          (if (recordOf s i).state.holder = .none then .done else .accepted) []
          (judge (bar i .byRequest s))))
      ∧ exec (.unbarString .service tag (BitVec.ofNat 8 i.val)) s = .next
        (if !isInstalled s i then owing .service 0x11 tag .absent [] s
        else if (recordOf s i).state.pendingBar.isSome then owing .service 0x11 tag .busy [] s
        else if (recordOf s i).state.barCause = none then owing .service 0x11 tag .notFound [] s
        else if s.eqc.attachment.holds i ∨ s.wac.valve.holds i then owing .service 0x11 tag .locked [] s
        else if !isPresent s (nodeOf i) then owing .service 0x11 tag .notPresent [] s
        else owing .service 0x11 tag .done []
          (judge (modString i (fun r => { r with state := .float }) s)))

/-! ### Equalise rounds -/

/-- The first event of Table 4.6 decides the outcome and a later one changes nothing; what the channel then does depends
on where the round stands (R74, R75): a waiting ATTACH is withdrawn and the round ends at once, a transaction in flight
runs to its end, a pause STANDBY that is claimed and not yet granted is kept, a PAUSED round of a released loop stays, and
in every other case DETACH is claimed. That the pause STANDBY's claim is kept, where the last sentence of R75 withdraws a
pending claim, is the model's choice (assumption 36), and so is that the pause set stays as it stood (assumption 42). -/
def Obligations.EqualiseOutcomeIsDecidedOnce : Prop :=
  ∀ (s : State) (o : EqOutcome) (r : Round), s.eqc.round = some r →
    (r.outcome.isSome ∨ s.eqc.state = .idle ∨ s.eqc.state = .detach ∨ s.eqc.state = .fault →
      decideEqualise o s = s)
    ∧ (r.outcome = none →
      let stopped : Round := { r with outcome := some o, timer := { r.timer with running := false } }
      let kept := { s with eqc := { s.eqc with round := some stopped } }
      let detaching := { s with
        eqc := { s.eqc with state := .detach, round := some { stopped with pause := none } }
        loop := { s.loop with claimEqualise := some .detach } }
      (s.eqc.state = .raise ∨ s.eqc.state = .hold →
        decideEqualise o s =
          if (equaliseInFlight s).isSome ∨ s.loop.claimEqualise = some .pauseStandby then kept
          else detaching)
      ∧ (s.eqc.state = .paused →
        decideEqualise o s =
          if isReleased s then { kept with loop := { s.loop with claimEqualise := none } }
          else if (equaliseInFlight s).isSome then kept else detaching)
      ∧ (s.eqc.state = .connect → (equaliseInFlight s).isSome →
        decideEqualise o s = { s with eqc := { s.eqc with round := some { r with outcome := some o } } })
      ∧ (s.eqc.state = .connect → equaliseInFlight s = none →
        s.loop.claimEqualise ≠ some (.attach r.string) ∨ r.faultAtEnd →
        (∀ i, s.loop.claimEqualise = some (.attach i) → i = r.string) →
        decideEqualise o s = detaching)
      ∧ (s.eqc.state = .connect → equaliseInFlight s = none →
        s.loop.claimEqualise = some (.attach r.string) → r.faultAtEnd = false →
        decideEqualise o s = endRound false false
          { s with
            eqc := { s.eqc with round := some { r with outcome := some o } }
            loop := { s.loop with claimEqualise := none } }))

/-- What ATTACH and STANDBY of CONNECT bring (R62, R64, R65): an answered ATTACH is recorded and STANDBY is claimed; a
failed one ends the round ABORTED, NO ATTACH or BOOST LOST; an answered STANDBY opens RAISE with the opening setpoint,
or PAUSED where a pause cause stands or the permitted current is below the recipe's minimum; a failed one decides
BOOST LOST. Where the outcome was decided meanwhile it stands: an answered ATTACH, and a STANDBY whatever its outcome, are
followed by DETACH, and a failed ATTACH ends the round, or is followed by DETACH where the fault-at-end mark is set (R64,
R65, R75). That the pause set of such a round stays as it stood is the model's choice (assumption 42), and so is that a
round PAUSED for the permitted current alone remembers RAISE (assumption 48). -/
def Obligations.ConnectOpensTheRound : Prop :=
  (∀ s : State, s.eqc.state = .connect → ∀ r : Round, s.eqc.round = some r →
    let detaching := fun x : Eqc =>
      { s with
        eqc := { x with
          state := .detach
          round := x.round.map fun y => { y with pause := none, timer := { y.timer with running := false } } }
        loop := { s.loop with claimEqualise := some .detach } }
    (r.outcome.isSome →
      (∀ (i : StringNo) (data : List Octet),
        attachEnded i (.answer data) s = detaching { s.eqc with attachment := .names i true })
      ∧ ∀ o : TxOutcome, connectStandbyEnded o s = detaching s.eqc)
    ∧ ∀ (i : StringNo) (o : TxOutcome), (∀ d, o ≠ .answer d) → r.outcome.isSome ∨ r.faultAtEnd →
      let cause : Cause := if o = .noAnswer ∨ o = .lineFault then .boostLost else .noAttach
      let decided := { s.eqc with round := some { r with outcome := some (r.outcome.getD (.aborted cause)) } }
      attachEnded i o s =
        if r.faultAtEnd then detaching decided else endRound false false { s with eqc := decided })
  ∧ ∀ s : State, s.eqc.state = .connect → ∀ r : Round, s.eqc.round = some r → r.outcome = none →
    (∀ (i : StringNo) (data : List Octet), attachEnded i (.answer data) s =
      { s with
        eqc := { s.eqc with attachment := .names i true }
        loop := { s.loop with claimEqualise := some .connectStandby } })
    ∧ (∀ (i : StringNo) (o : TxOutcome), (∀ d, o ≠ .answer d) → r.faultAtEnd = false →
      attachEnded i o s = endRound false false
        { s with eqc := { s.eqc with round := some { r with
          outcome := some (.aborted
            (if o = .noAnswer ∨ o = .lineFault then .boostLost else .noAttach)) } } })
    ∧ (∀ data : List Octet, r.pauses.isEmpty →
      r.recipe.imin ≤ (setpointAt s r (recordOf s r.string).voltage).perm →
      connectStandbyEnded (.answer data) s =
        { s with eqc := { s.eqc with
          state := .raise
          round := some { r with
            timer := { count := 0, length := s.settings.period, running := true }
            acct := { r.acct with held := some (setpointAt s r (recordOf s r.string).voltage) } } } })
    ∧ (∀ data : List Octet,
      (r.pauses.isEmpty = false
          ∨ (setpointAt s r (recordOf s r.string).voltage).perm < r.recipe.imin) →
      connectStandbyEnded (.answer data) s =
        let low := r.pauses.isEmpty || r.pauses.lowEnergy
        raise .roundPaused { s with eqc := { s.eqc with
          state := .paused
          round := some { r with
            pauses := { r.pauses with lowEnergy := low }
            pause := some { phase := .raise, elapsed := 0, expired := false }
            timer :=
              if low then { count := 0, length := s.settings.period, running := true }
              else { r.timer with running := false }
            acct := { r.acct with held := none } } } })
    ∧ ∀ o : TxOutcome, (∀ d, o ≠ .answer d) →
      connectStandbyEnded o s = decideEqualise (.aborted .boostLost) s

/-- The steps of a round's end (R8, R10, R77, R100, R101): the history, the release, the dose and its follow-on post,
the record, ROUND ENDED, and the channel in IDLE, or in FAULT with CHANNEL FAULT. That the string of a FINISHED or TIMED
round with the fault-at-end mark set leaves by R10 like any other, to SETTLE where its settle time is above 0, is the
model's choice: R79 has it go to FLOAT (assumption 47). That the record of a FINISHED, TIMED or CANCELLED round has no
cause is read from the spec (DEDUCED: assumption 28). -/
def Obligations.EqualiseRoundIsHandedOn : Prop :=
  ∀ (s : State) (mark toFault : Bool) (r : Round), s.eqc.round = some r →
    ∀ b : Option BarCause, (recordOf s r.string).state = .equalise b → ∀ o : EqOutcome, r.outcome = some o →
    let completed : Bool := o = .finished ∨ o = .timed
    let old := recordOf s r.string
    let t := endRound mark toFault s
    let dose := min ((r.acct.overcharge * s.settings.waterFactor * 24 + 35999999) / 36000000
      + (match old.hoursWater with | some h => h * s.settings.floatAllowance / 24 | none => 0)) s.settings.dmax
    recordOf t r.string =
      { old with
        state :=
          if mark then .barred .detachFailed
          else match b with
            | some c => .barred c
            | none =>
              if completed && 0 < r.recipe.settleTime then .settle r.recipe.settleTime else .float
        lastEqualise := some o
        hoursEqualise := if completed then some 0 else old.hoursEqualise
        throughput := if completed then 0 else old.throughput
        remainder := if completed then 0 else old.remainder }
    ∧ (∀ i : StringNo, i ≠ r.string → recordOf t i = recordOf s i)
    ∧ t.eqc = { s.eqc with round := none, state := if toFault then .fault else .idle }
    ∧ (∀ p : Port, (t.ports.get p).pending.getLsbD Notice.roundEnded.bit
        ∧ (toFault → (t.ports.get p).pending.getLsbD Notice.channelFault.bit))
    ∧ (t.log.places[t.log.position - 1]).map
        (fun x => (x.sequence, x.kind, x.number, x.string, x.origin, x.outcome, x.cause, x.start))
      = some (t.log.sequence - 1, .equalise, some r.number, some r.string, some r.origin,
          some o.name, o.cause, r.start)
    ∧ (t.log.places[t.log.position - 1]).map
        (fun x => (x.charge, x.overcharge, x.energy, x.peak, x.spread, x.dose, x.belowMinimum))
      = some (clampTo (-32768) 32767 (Int.tdiv r.acct.charge 3600), min (r.acct.overcharge / 3600) 65535,
          min (r.acct.energy / 36000000) 65535, r.acct.peak.getD 0, old.spread,
          if completed then dose else 0, completed && decide (dose < s.settings.dmin))
    ∧ (let u := releaseString r.string (if mark then some .detachFailed else none)
          (if completed then some r.recipe.settleTime else none) (takeEqualiseOutcome r.string o s);
        t.queue =
          if completed ∧ s.settings.dmin ≤ dose ∧ 1 ≤ dose then
            (post { work := .water dose, string := r.string, urgency := .normal, origin := .followOn } u).1.queue
          else u.queue)
    ∧ t.wac = s.wac ∧ t.loop = s.loop ∧ t.plant = s.plant ∧ t.demand = s.demand ∧ t.sweep = s.sweep
    ∧ t.settings = s.settings ∧ t.store = s.store ∧ t.clock = s.clock

/-- DETACH ended (R62, R76): an answer empties the record and ends the round unmarked; a failure with the record naming a
string keeps it unconfirmed, marks the release DETACH FAILED and takes the channel to FAULT; a failure with the record
empty ends the round unmarked in FAULT. -/
def Obligations.DetachEndsTheRound : Prop :=
  ∀ (s : State) (o : TxOutcome) (r : Round), s.eqc.round = some r →
    ((∃ d, o = .answer d) → detachEnded o s =
      endRound false r.faultAtEnd { s with eqc := { s.eqc with attachment := .empty } })
    ∧ ((∀ d, o ≠ .answer d) → s.eqc.attachment = .empty → detachEnded o s = endRound false true s)
    ∧ ∀ (i : StringNo) (c : Bool), (∀ d, o ≠ .answer d) → s.eqc.attachment = .names i c →
        detachEnded o s = endRound true true { s with eqc := { s.eqc with attachment := .names i false } }

/-- The resume of a PAUSED round whose pause set is empty (R72, R93): in HOLD where the last fresh voltage stands in the
approach band, with a new plateau window and the resume setpoint, or with LOW ENERGY added where the permitted current is
below the recipe's minimum. That the setpoint computed there is not held is the model's choice (assumption 49). -/
def resumed (r : Round) (s : State) : State :=
  let timer : PeriodTimer := { count := 0, length := s.settings.period, running := true }
  let vs := match r.acct.lastRefresh, r.acct.lastFresh with
    | some rd, _ => rd.vs
    | none, some rd => rd.vs
    | none, none => (recordOf s r.string).voltage
  let sp := setpointAt s r vs
  { s with eqc :=
      if sp.perm < r.recipe.imin then
        { s.eqc with round := some { r with
          pauses := { r.pauses with lowEnergy := true }, timer := timer, acct := { r.acct with held := none } } }
      else
        { s.eqc with
          state := match r.acct.lastFresh with
            | some rd => if sp.target ≤ rd.vs + 24 * r.recipe.approachBand then .hold else .raise
            | none => .raise
          round := some { r with
            pause := none, timer := timer
            acct := { r.acct with
              held := some sp, plateau := 0, windowTime := 0, windowMin := none, prevMin := none } } } }

/-- Pause causes (R70, R72): in CONNECT and PAUSED a cause joins the set; in RAISE and HOLD the first one stops the
timer and claims STANDBY, at once or after a SET POINT in flight; the last one removed from a PAUSED round resumes it.
Without an open round nothing is recorded. An answered pause STANDBY brings PAUSED with ROUND PAUSED, and a resume at
once where the set is empty by then; a failed one is claimed again. A standby refresh (R71) that finds the permitted
current at the recipe's minimum removes LOW ENERGY, one that does not goes on, and the third failure in a row decides
BOOST LOST. After a decided outcome either STANDBY is followed by DETACH (R75). That a pause whose causes are all
removed before the SET POINT in flight has ended still claims its STANDBY (the mark pauseOwed) is the model's choice
(assumption 21), and so are that the pause set of a decided round stays as it stood (assumption 42), that a resume which
finds the permitted current below the minimum holds no setpoint (assumption 49), and that a standby refresh which ends
after the decision changes neither the failure count nor the last refresh reading (assumption 52). -/
def Obligations.PauseCausesPauseAndResume : Prop :=
  ∀ (s : State) (c : PauseCause) (data : List Octet) (o : TxOutcome),
    (openRound s = none → addPause c s = s ∧ removePause c s = s)
    ∧ (∀ r : Round, s.eqc.round = some r → r.outcome.isSome →
      let t := { s with
        eqc := { s.eqc with
          state := .detach
          round := some { r with pause := none, timer := { r.timer with running := false } } }
        loop := { s.loop with claimEqualise := some .detach } }
      pauseStandbyEnded o s = t ∧ refreshEnded o s = t)
    ∧ ∀ r : Round, openRound s = some r →
      let joined : Round := { r with pauses := r.pauses.put c true }
      let left : Round := { r with pauses := r.pauses.put c false }
      let put := fun x : Round => { s with eqc := { s.eqc with round := some x } }
      let claim := fun x : Round =>
        { s with
          eqc := { s.eqc with round := some { x with pauseOwed := false, acct := { x.acct with held := none } } }
          loop := { s.loop with claimEqualise := some .pauseStandby } }
      (s.eqc.state = .connect ∨ s.eqc.state = .paused ∨ r.pauses.isEmpty = false →
        addPause c s = put joined)
      ∧ (s.eqc.state = .raise ∨ s.eqc.state = .hold → r.pauses.isEmpty → addPause c s =
        let still : Round := { joined with timer := { r.timer with running := false } }
        match equaliseInFlight s with
        | some .pauseStandby => put still
        | some _ => put { still with pauseOwed := true }
        | none => if s.loop.claimEqualise = some .pauseStandby then put still else claim still)
      ∧ (s.eqc.state ≠ .paused ∨ left.pauses.isEmpty = false → removePause c s = put left)
      ∧ (s.eqc.state = .paused → left.pauses.isEmpty → removePause c s = resumed left s)
      ∧ (s.eqc.state = .raise ∨ s.eqc.state = .hold →
        let x : Round := { r with
          pause := some
            { phase := if s.eqc.state = .hold then .hold else .raise, elapsed := 0, expired := false }
          timer :=
            if r.pauses.lowEnergy then { count := 0, length := s.settings.period, running := true }
            else { r.timer with running := false }
          acct := { r.acct with held := none } }
        let t := raise .roundPaused { s with eqc := { s.eqc with state := .paused, round := some x } }
        pauseStandbyEnded (.answer data) s = (if r.pauses.isEmpty then resumed x t else t)
        ∧ ((∀ d, o ≠ .answer d) → pauseStandbyEnded o s = claim r))
      ∧ (s.eqc.state = .paused →
        let rd : Reading := { vs := (halfAt data 0).toNat, is := (halfAt data 2).toInt }
        let timer : PeriodTimer := { count := 0, length := s.settings.period, running := true }
        let x : Round := { r with failures := 0, acct := { r.acct with lastRefresh := some rd } }
        let y : Round := { x with pauses := { r.pauses with lowEnergy := false } }
        refreshEnded (.answer data) s =
          (if (setpointAt s r rd.vs).perm < r.recipe.imin then put { x with timer := timer }
          else if y.pauses.isEmpty then resumed y s else put y)
        ∧ ((∀ d, o ≠ .answer d) → refreshEnded o s =
          let counted : Round := { r with failures := r.failures + 1 }
          if r.failures < 2 then put { counted with timer := timer }
          else decideEqualise (.aborted .boostLost) (put counted)))

/-! ### Charge accounting -/

/-- Stages 1 to 3 (R89 to R92): the compensation temperature, 500 where it is stale; the target of 24 cells; the budget
current; the least of recipe, budget and headroom, halved at the derate temperature. So the target lies between 52 800 mV
and 24 times the recipe's ceiling, is lowest at a stale temperature, and the current is above none of its three limits
and 0 outside a window. -/
def Obligations.SetpointIsComputed : Prop :=
  (∀ (s : State) (r : Round) (vs : Nat),
    let old := recordOf s r.string
    let fresh : Bool := old.age ≤ 3 * s.settings.sweepInterval
    let tc := if fresh then clampTo 0 500 old.temperature else 500
    let cell := clampTo 2200 r.recipe.vmax (r.recipe.vt25 + Int.tdiv (r.recipe.k * (tc - 250)) 100)
    let bav := (if s.plant.windowOpen then s.plant.budget else 0)
      - (if s.wac.pump = .off then 0 else s.settings.pumpPower)
    let headroom := match s.plant.report with | some x => x.headroom | none => 0
    let least := min r.recipe.ilim (min (bav * 10000 / max vs 43200) headroom.toNat)
    setpointAt s r vs =
      { target := 24 * cell.toNat
        perm := if fresh ∧ r.recipe.derateTemp ≤ old.temperature then least / 2 else least })
  ∧ ∀ (s : State) (r : Round) (vs : Nat), 2200 ≤ r.recipe.vmax → r.recipe.k ≤ 0 →
    let sp := setpointAt s r vs
    52800 ≤ sp.target ∧ sp.target ≤ 24 * r.recipe.vmax
    ∧ voltageTarget r.recipe (compensationTemp none) ≤ sp.target
    ∧ sp.perm ≤ r.recipe.ilim
    ∧ sp.perm * max vs 43200 ≤ s.plant.budget * 10000
    ∧ (sp.perm : Int) ≤ max 0 s.plant.headroom
    ∧ (s.plant.windowOpen = false → sp.perm = 0)

/-- Stage 5 (R94, R95, R97): an answered period adds its charge, its overcharge in HOLD and its energy, saturating, takes
the reply as the last fresh reading and raises the peak of fresh temperatures; a held period adds the same on the last
fresh reading, or nothing without one, and leaves reading and peak. That a stale temperature leaves an absent peak absent is the
model's choice (assumption 40). -/
def Obligations.PeriodIsIntegrated : Prop :=
  ∀ (s : State) (r : Round) (ph : Phase) (rd : Reading),
    let old := recordOf s r.string
    let t : Nat := r.timer.length
    let a := (answeredPeriod s r ph rd).1
    let h := heldPeriod s r ph
    let add := fun (x : Reading) (b : Accounting) =>
      b.charge = clampTo (-2147483648) 2147483647 (r.acct.charge + x.is * t)
      ∧ b.overcharge =
        (if ph = .hold ∧ 0 < x.is then min 4294967295 (r.acct.overcharge + x.is.toNat * t)
          else r.acct.overcharge)
      ∧ b.energy =
        (if 0 < x.is then min 281474976710655 (r.acct.energy + x.vs * x.is.toNat * t) else r.acct.energy)
    add rd a ∧ a.lastFresh = some rd ∧ a.held = some (setpointAt s r rd.vs)
    ∧ a.peak =
      (if old.age ≤ 3 * s.settings.sweepInterval then some (max old.temperature (r.acct.peak.getD old.temperature))
        else r.acct.peak)
    ∧ add (r.acct.lastFresh.getD { vs := 0, is := 0 }) h
    ∧ h.lastFresh = r.acct.lastFresh ∧ h.peak = r.acct.peak
    ∧ h.held = some (setpointAt s r (r.acct.lastFresh.getD { vs := 0, is := 0 }).vs)
    ∧ h.plateau = r.acct.plateau

/-- Stage 6 (R97): the verdict of an answered period is that of the first check that holds, in the order of the table. -/
def Obligations.VerdictIsTheFirstCheck : Prop :=
  ∀ (s : State) (r : Round) (ph : Phase) (rd : Reading),
    let old := recordOf s r.string
    let a := (answeredPeriod s r ph rd).1
    let sp := setpointAt s r rd.vs
    let low : Bool := sp.perm < r.recipe.imin
    let reached : Bool := ph = .raise && sp.target - 24 * r.recipe.approachBand ≤ rd.vs
    (answeredPeriod s r ph rd).2 =
      if sp.target + 1200 < rd.vs then .decided (.aborted .overvoltage)
      else if old.age ≤ 3 * s.settings.sweepInterval ∧ r.recipe.abortTemp ≤ old.temperature then
        .decided (.aborted .overTemp)
      else if reached && !low then .enterHold
      else if ph = .raise ∧ !reached ∧ r.recipe.raiseLimit * 60 ≤ r.raiseElapsed then .decided (.aborted .noRise)
      else if ph = .hold ∧ a.plateau = 2 then .decided .finished
      else if ph = .hold ∧ min (r.recipe.maxHold * 60) 65535 ≤ r.holdElapsed then .decided .timed
      else if low then .lowEnergy
      else .continue

/-- Stage 7 (R98, R99): an answered period in HOLD joins the window and its minimum; a window that reaches the plateau
window is judged against the minimum before it, and a new one starts. A held period in HOLD adds its time alone, and a
window that closes at it is dropped without judgement; a period in RAISE leaves the window. That an answered period in HOLD
feeds the window whatever its verdict is the model's choice (assumption 41). -/
def Obligations.PlateauIsJudged : Prop :=
  (∀ (s : State) (r : Round) (rd : Reading),
    let joined := min 65535 (r.acct.windowTime + r.timer.length)
    let kept := fun b : Accounting => b.plateau = r.acct.plateau ∧ b.prevMin = r.acct.prevMin
    let window := fun b : Accounting => (b.windowTime, b.windowMin, b.prevMin, b.plateau)
    let h := heldPeriod s r .hold
    kept h
    ∧ (joined < r.recipe.plateauWindow * 60 → h.windowTime = joined ∧ h.windowMin = r.acct.windowMin)
    ∧ (r.recipe.plateauWindow * 60 ≤ joined → h.windowTime = 0 ∧ h.windowMin = none)
    ∧ window (heldPeriod s r .raise) = window r.acct
    ∧ window (answeredPeriod s r .raise rd).1 = window r.acct
    ∧ window (answeredPeriod s r .hold rd).1
      = window (plateauStage r.recipe r.holdElapsed rd.is r.timer.length r.acct))
  ∧ ∀ (rc : Recipe) (holdElapsed t : Nat) (is : Int) (a : Accounting),
    let joined := min 65535 (a.windowTime + t)
    let least := match a.windowMin with | some m => min m is | none => is
    let b := plateauStage rc holdElapsed is t a
    (joined < rc.plateauWindow * 60 →
      b = { a with windowTime := joined, windowMin := some least })
    ∧ (rc.plateauWindow * 60 ≤ joined →
      b = { a with
        windowTime := 0, windowMin := none, prevMin := some least
        plateau := match a.prevMin with
          | some m =>
            if rc.minHold * 60 ≤ holdElapsed ∧ m - least ≤ rc.plateauTolerance then a.plateau + 1 else 0
          | none => 0 })

/-! ### Watering rounds -/

/-- The end sequence of a watering round begun (R111): STOP where pump on was sent or the fault mark is set, else CLOSE
where the valve record names the string, else the end of the round. -/
def endBegun (d : Dose) (s : State) : State :=
  let w := { s.wac with dose := some { d with pollTimer := none, maxReached := false } }
  if d.pumpOnSent ∨ d.faultAtEnd then
    { s with
      wac := { w with state := .stop }
      loop := { s.loop with claimWater := some .pumpOff } }
  else if s.wac.valve.holds d.string then
    { s with
      wac := { w with state := .close }
      loop := { s.loop with claimWater := some (.closeValve d.string) } }
  else endDose .released d.faultAtEnd { s with wac := w, loop := { s.loop with claimWater := none } }

/-- The first event of Table 6.5 decides the outcome and a later one changes nothing; the end sequence then runs, or
waits for a transaction in flight (R110, R111). -/
def Obligations.WaterOutcomeIsDecidedOnce : Prop :=
  ∀ (s : State) (o : WaterOutcome) (d : Dose), s.wac.dose = some d →
    (d.outcome.isSome ∨ ¬ (s.wac.state = .open ∨ s.wac.state = .pump ∨ s.wac.state = .dose) →
      decideWater o s = s)
    ∧ (d.outcome = none → s.wac.state = .open ∨ s.wac.state = .pump ∨ s.wac.state = .dose →
      let kept : Dose := { d with outcome := some o, pollTimer := none, maxReached := false }
      decideWater o s =
        if (waterInFlight s).isSome then { s with wac := { s.wac with dose := some kept } }
        else endBegun { d with outcome := some o } s)

/-- An answered READ WATER of a running dose (R104, R108): the reading clears the reservoir-low flag at the reserve plus
10; a changed volume is taken with its time; DELIVERED at the dose limit, else FULL after the no-flow time, else the
poll timer restarts. One that did not answer changes nothing but the timer. Where the outcome was decided while it was in
flight, the reading is taken and the end sequence begins, whatever the outcome of the poll (R111). -/
def Obligations.DoseReadingIsJudged : Prop :=
  ∀ s : State, s.wac.state = .dose → ∀ d : Dose, s.wac.dose = some d →
    (∀ o : TxOutcome, (∀ x, o ≠ .answer x) → dosePollEnded o s =
      if d.outcome.isSome then endBegun d s
      else { s with wac := { s.wac with dose := some { d with pollTimer := some 0 } } })
    ∧ ∀ (reservoir delivered : Half) (flow : Bool), ∀ now : Nat, d.elapsed = some now →
      let data := octetsOfHalf reservoir ++ octetsOfHalf delivered ++ encFlag flow
      let moved : Bool := delivered.toNat ≠ d.delivered
      let d' : Dose := { d with
        flowActive := some flow, delivered := delivered.toNat
        lastChange := if moved then some now else d.lastChange }
      let w := if s.wac.reservoirLow ∧ s.settings.reserve + 10 ≤ reservoir.toNat then
          { s.wac with reservoir := some reservoir.toNat, reservoirLow := false, pollTimer := none }
        else { s.wac with reservoir := some reservoir.toNat }
      let read := { s with wac := { w with dose := some d' } }
      dosePollEnded (.answer data) s =
        if d.outcome.isSome then endBegun d' read
        else if d.limit ≤ delivered.toNat then decideWater .delivered read
        else if s.settings.noFlowTime ≤ now - d'.lastChange.getD 0 then decideWater .full read
        else { read with wac := { w with dose := some { d' with pollTimer := some 0 } } }

/-- The water transactions before and after the dose. An answered SET VALVE open is recorded and PUMP ON claimed, a
failed one aborts (R106); an answered PUMP ON starts the dose, a failed one aborts (R107); where the outcome was decided
while either was in flight, it stands and the end sequence begins (R111). An answered PUMP OFF goes on to CLOSE; a failed
one with the pump on keeps the string and the valve as they are, in FAULT, and one with the pump off goes on to CLOSE
with the fault mark set (R112). An answered close ends the round, a failed one bars the string CLOSE FAILED, in FAULT
(R113). That a failed open with the fault mark set goes to STOP is the model's reading of R111 (assumption 26). -/
def Obligations.WaterTransactionsEnd : Prop :=
  ∀ (s : State) (x : List Octet) (o : TxOutcome) (d : Dose), s.wac.dose = some d →
    let named := { s with wac := { s.wac with valve := .names d.string true } }
    let pumping := { s with wac := { s.wac with pump := .onConfirmed } }
    (d.outcome = none → openValveEnded d.string (.answer x) s =
      { named with
        wac := { named.wac with state := .pump }
        loop := { s.loop with claimWater := some .pumpOn } })
    ∧ (d.outcome.isSome → openValveEnded d.string (.answer x) s = endBegun d named)
    ∧ (d.outcome = none → pumpOnEnded (.answer x) s =
      { pumping with wac := { pumping.wac with
        state := .dose
        dose := some { d with
          elapsed := some 0, lastChange := some 0, delivered := 0, pollTimer := some 0 } } })
    ∧ (d.outcome.isSome → pumpOnEnded (.answer x) s = endBegun d pumping)
    ∧ (s.wac.valve.holds d.string → pumpOffEnded (.answer x) s =
      { s with
        wac := { s.wac with state := .close, pump := .off }
        loop := { s.loop with claimWater := some (.closeValve d.string) } })
    ∧ (s.wac.valve = .empty → pumpOffEnded (.answer x) s =
      endDose .released d.faultAtEnd { s with wac := { s.wac with pump := .off } })
    ∧ closeValveEnded (.answer x) s =
        endDose .released d.faultAtEnd { s with wac := { s.wac with valve := .empty } }
    ∧ ((∀ y, o ≠ .answer y) →
      let cause : Cause := if o.place = 1 then .valveFault else .nodeLost
      openValveEnded d.string o s = endBegun { d with outcome := some (d.outcome.getD (.aborted cause)) } s
      ∧ pumpOnEnded o s = endBegun { d with outcome := some (d.outcome.getD (.aborted .pumpLost)) } s
      ∧ (s.wac.pump ≠ .off → pumpOffEnded o s =
        endDose .kept true { s with wac := { s.wac with pump := .onUnconfirmed } })
      ∧ (s.wac.pump = .off → s.wac.valve.holds d.string → pumpOffEnded o s =
        { s with
          wac := { s.wac with state := .close, dose := some { d with faultAtEnd := true } }
          loop := { s.loop with claimWater := some (.closeValve d.string) } })
      ∧ (s.wac.pump = .off → s.wac.valve = .empty → pumpOffEnded o s =
        endDose .released true { s with wac := { s.wac with dose := some { d with faultAtEnd := true } } })
      ∧ closeValveEnded o s = endDose .closeFailed true { s with wac := { s.wac with valve :=
          match s.wac.valve with | .names i _ => .names i false | .empty => .empty } })

/-- What every end of a watering round leaves in `t` (R114), the dose `d` having ended with the outcome `o` in `s`. The
record's cause is absent for an outcome that has none (DEDUCED: assumption 28). -/
def doseIsOver (toFault : Bool) (d : Dose) (o : WaterOutcome) (s t : State) : Prop :=
  t.wac.dose = none ∧ t.wac.state = (if toFault then .fault else .idle)
    ∧ t.wac.valve = s.wac.valve ∧ t.wac.pump = s.wac.pump ∧ t.wac.reservoirLow = s.wac.reservoirLow
    ∧ (∀ p : Port, (t.ports.get p).pending.getLsbD Notice.roundEnded.bit
        ∧ (toFault → (t.ports.get p).pending.getLsbD Notice.channelFault.bit))
    ∧ (t.log.places[t.log.position - 1]).map
        (fun x => (x.sequence, x.kind, x.number, x.string, x.origin, x.outcome, x.cause, x.start))
      = some (t.log.sequence - 1, .water, some d.number, some d.string, some d.origin, some o.name, o.cause,
          d.start)
    ∧ (t.log.places[t.log.position - 1]).map (fun x => (x.dose, x.delivered, x.spread))
      = some (d.limit, d.delivered, (recordOf s d.string).spread)
    ∧ (∀ i : StringNo, i ≠ d.string → recordOf t i = recordOf s i)
    ∧ t.eqc = s.eqc ∧ t.plant = s.plant ∧ t.demand = s.demand ∧ t.sweep = s.sweep

/-- The history of a string after a watering round (R9, R10). -/
def afterDose (o : WaterOutcome) (delivered : Nat) (old : StringRecord) : StringRecord :=
  { old with
    waterTotal := min 4294967295 (old.waterTotal + delivered)
    lastWater := some (o, delivered)
    hoursWater := if o = .delivered ∨ o = .full ∨ o = .timed then some 0 else old.hoursWater }

/-- The steps of a watering round's end (R9, R10, R114): the history with the water total, the release, or none after a
failed PUMP OFF, the record, ROUND ENDED, and the channel in IDLE, or in FAULT with CHANNEL FAULT. That the record of a
DELIVERED, FULL, TIMED, STOPPED or CANCELLED round has no cause is read from the spec (DEDUCED: assumption 28). -/
def Obligations.WaterRoundIsHandedOn : Prop :=
  ∀ (s : State) (toFault : Bool) (d : Dose), s.wac.dose = some d →
    ∀ b : Option BarCause, (recordOf s d.string).state = .water b → ∀ o : WaterOutcome, d.outcome = some o →
    let history := afterDose o d.delivered (recordOf s d.string)
    doseIsOver toFault d o s (endDose .released toFault s)
    ∧ recordOf (endDose .released toFault s) d.string =
        { history with state := match b with | some c => .barred c | none => .float }
    ∧ (endDose .released toFault s).queue = s.queue
    ∧ doseIsOver toFault d o s (endDose .kept toFault s)
    ∧ recordOf (endDose .kept toFault s) d.string = history
    ∧ (endDose .kept toFault s).queue = s.queue
    ∧ doseIsOver toFault d o s (endDose .closeFailed toFault s)
    ∧ recordOf (endDose .closeFailed toFault s) d.string = { history with state := .barred .closeFailed }

/-- The timers of a round: the period timer's end in RAISE or HOLD adds the period's length and claims SET POINT with
the setpoint held (R67), and claims nothing where none is held, which no run comes to (the model's choice: assumption
1); in PAUSED with LOW ENERGY it claims the standby refresh (R71); pause elapsed at the resume limit decides ABORTED,
PAUSE EXPIRED (R73), by the mark expired that the tick has set there (the model's choice: assumption 8). The timers of
the Water Channel: the dose poll at 2 s claims READ WATER (R108); dose elapsed at the maximum dose time decides TIMED
(R109), by the mark maxReached that the tick has set there (assumption 8); the reservoir poll at 60 s claims READ WATER
in IDLE with the flag set (R104), once the channel has nothing else out (the model's choice: assumption 26). That poll's
end takes the reading, clears the flag at the reserve plus 10, and restarts the timer while the flag stays set. An event
whose condition does not stand changes nothing (assumption 1). -/
def Obligations.ChannelTimersAct : Prop :=
  ((∀ (s : State) (r : Round), s.eqc.round = some r → r.outcome = none →
    let ended : Bool := r.timer.running && r.timer.length ≤ r.timer.count
    let stopped := { r.timer with running := false }
    let setPointClaimed := match r.acct.held with | some sp => some (.setPoint sp) | none => s.loop.claimEqualise
    (s.eqc.state = .raise → exec .periodExpiry s = .next
      (if ended then
        { s with
          eqc := { s.eqc with round := some { r with
            timer := stopped, raiseElapsed := min 65535 (r.raiseElapsed + r.timer.length) } }
          loop := { s.loop with claimEqualise := setPointClaimed } }
      else s))
    ∧ (s.eqc.state = .hold → exec .periodExpiry s = .next
      (if ended then
        { s with
          eqc := { s.eqc with round := some { r with
            timer := stopped, holdElapsed := min 65535 (r.holdElapsed + r.timer.length) } }
          loop := { s.loop with claimEqualise := setPointClaimed } }
      else s))
    ∧ (s.eqc.state = .paused → exec .standbyRefresh s = .next
      (if ended && r.pauses.lowEnergy then
        { s with
          eqc := { s.eqc with round := some { r with timer := stopped } }
          loop := { s.loop with claimEqualise := some .refresh } }
      else s))
    ∧ (s.eqc.state = .paused → ∀ p : Pause, r.pause = some p → exec .pauseExpired s = .next
      (if p.expired then decideEqualise (.aborted .pauseExpired) s else s)))
  ∧ ∀ s : State, openRound s = none →
      exec .periodExpiry s = .next s ∧ exec .standbyRefresh s = .next s ∧ exec .pauseExpired s = .next s)
  ∧ (∀ (s : State) (d : Dose), s.wac.dose = some d →
    exec .dosePoll s = .next
      (if s.wac.state = .dose ∧ 2 ≤ d.pollTimer.getD 0 then
        { s with
          wac := { s.wac with dose := some { d with pollTimer := none } }
          loop := { s.loop with claimWater := some .dosePoll } }
      else s)
    ∧ exec .maximumDoseTime s = .next (if d.maxReached then decideWater .timed s else s))
  ∧ (∀ s : State, s.wac.dose = none → exec .dosePoll s = .next s ∧ exec .maximumDoseTime s = .next s)
  ∧ (∀ (s : State) (data : List Octet) (o : TxOutcome),
    let reading := (halfAt data 0).toNat
    let cleared : Bool := s.wac.reservoirLow && decide (s.settings.reserve + 10 ≤ reading)
    let restarted : Option Nat := if s.wac.state = .idle ∧ s.wac.reservoirLow then some 0 else s.wac.pollTimer
    reservoirPollEnded (.answer data) s =
      { s with wac := { s.wac with
        reservoir := some reading
        reservoirLow := s.wac.reservoirLow && !cleared
        pollTimer := if cleared then none else restarted } }
    ∧ ((∀ d, o ≠ .answer d) → reservoirPollEnded o s = { s with wac := { s.wac with pollTimer := restarted } }))
  ∧ ∀ s : State, exec .reservoirPoll s = .next
      (if 60 ≤ s.wac.pollTimer.getD 0 ∧ s.wac.state = .idle ∧ s.wac.reservoirLow
          ∧ s.loop.claimWater = none ∧ waterInFlight s = none then
        { s with
          wac := { s.wac with pollTimer := none }
          loop := { s.loop with claimWater := some .reservoirPoll } }
      else s)

/-- The accounting after a reply that is taken for integration alone (R75, R94): charge, overcharge in HOLD and energy,
saturating, the last fresh reading and the peak of fresh temperatures (assumption 40). The setpoint held stays as it
was, which is the model's choice (assumption 55). -/
def integratedAlone (s : State) (r : Round) (ph : Phase) (rd : Reading) : Accounting :=
  let a := r.acct
  let t : Nat := r.timer.length
  let old := recordOf s r.string
  { a with
    charge := clampTo (-2147483648) 2147483647 (a.charge + rd.is * t)
    overcharge :=
      if ph = .hold ∧ 0 < rd.is then min 4294967295 (a.overcharge + rd.is.toNat * t) else a.overcharge
    energy := if 0 < rd.is then min 281474976710655 (a.energy + rd.vs * rd.is.toNat * t) else a.energy
    lastFresh := some rd
    peak :=
      if old.age ≤ 3 * s.settings.sweepInterval then some (max old.temperature (a.peak.getD old.temperature))
      else a.peak }

/-- What the end of a SET POINT does (R68, R69, R75): an answered period is integrated and its verdict acted on: HOLD
with the first plateau window, LOW ENERGY joined, an outcome decided, or the next period; a failed one is held and the
third in a row decides BOOST LOST. Where an outcome was decided meanwhile the period is integrated alone, or held, and
DETACH follows; the third failure in a row then holds no period. A SET POINT of any setpoint ends so. That a pause taken
during the SET POINT claims its STANDBY though its causes are gone by then (the mark pauseOwed) is the model's choice
(assumption 21), and so is that the plateau window is fed in a period whose verdict is an abort (assumption 41), and
that a stale temperature leaves an absent peak absent (assumption 40), and that a period integrated alone leaves the
setpoint held as it was (assumption 55). -/
def Obligations.SetPointOutcomeActs : Prop :=
  ∀ (s : State) (sp : Setpoint) (data : List Octet) (o : TxOutcome), s.eqc.state = .raise ∨ s.eqc.state = .hold →
    ∀ r : Round, s.eqc.round = some r →
    let ph : Phase := if s.eqc.state = .hold then .hold else .raise
    let rd : Reading := { vs := (halfAt data 0).toNat, is := (halfAt data 2).toInt }
    let clear : Round := { r with failures := 0 }
    let a := (answeredPeriod s clear ph rd).1
    let put := fun x : Round => { s with eqc := { s.eqc with round := some x } }
    let timer : PeriodTimer := { count := 0, length := s.settings.period, running := true }
    let again := fun x : Round =>
      if x.pauses.isEmpty ∧ x.pauseOwed = false then put { x with timer := timer } else placePauseStandby (put x)
    (r.outcome = none →
      setPointAnswered rd s =
        match (answeredPeriod s clear ph rd).2 with
        | .continue => again { clear with acct := a }
        | .enterHold =>
          let x : Round := { clear with
            acct := { a with plateau := 0, windowTime := 0, windowMin := none, prevMin := none } }
          let t := again x
          { t with eqc := { t.eqc with state := .hold } }
        | .lowEnergy => placePauseStandby (put { clear with acct := a, pauses := r.pauses.put .lowEnergy true })
        | .decided out => decideEqualise out (put { clear with acct := a }))
    ∧ (r.outcome = none →
      let counted : Round := { r with failures := r.failures + 1 }
      setPointFailed s =
        if r.failures < 2 then again { counted with acct := heldPeriod s counted ph }
        else decideEqualise (.aborted .boostLost) (put counted))
    ∧ (r.outcome.isSome →
      setPointAnswered rd s = enterDetach (put { clear with acct := integratedAlone s clear ph rd })
      ∧ setPointFailed s =
        let counted : Round := { r with failures := r.failures + 1 }
        enterDetach (put (if r.failures < 2 then { counted with acct := heldPeriod s counted ph } else counted)))
    ∧ handOutcome (.equalise (.setPoint sp)) (.answer data) s = setPointAnswered rd s
    ∧ ((∀ d, o ≠ .answer d) →
      handOutcome (.equalise (.setPoint sp)) o s = setPointFailed s)

/-! ### The energy window and the plant status record -/

/-- OPEN WINDOW from Port E, judged in the order of R124, opens or replaces the window with clamped values, and an opening
removes WINDOW CLOSED; CLOSE WINDOW and expiry close an OPEN window, add WINDOW CLOSED and keep the budget (R123,
R125). Each change is followed by the judgement of dispatch (R130). That an expiry whose condition does not stand changes
nothing is the model's choice (assumption 1). -/
def Obligations.WindowOpensAndCloses : Prop :=
  ∀ (s : State),
    let closed := judge (addPause .windowClosed
      { s with plant := { s.plant with windowOpen := false, remaining := 0 } })
    (∀ (tag : Octet) (budget minutes : Half), hears .energy s →
      let b := min budget.toNat 20000
      let m := min minutes.toNat 1440
      let opened := { s with plant := { s.plant with windowOpen := true, budget := b, remaining := m } }
      exec (.openWindow .energy tag budget minutes) s = .next
        (if minutes = 0 then owing .energy 0x04 tag .range [] s
        else owing .energy 0x04 tag
          (if 20000 < budget.toNat ∨ 1440 < minutes.toNat then .doneClamped else .done)
          (encFlag true ++ enc2 b ++ enc2 m)
          (judge (if s.plant.windowOpen then opened else removePause .windowClosed opened))))
    ∧ (∀ tag : Octet, hears .energy s →
      exec (.closeWindow .energy tag) s = .next
        (if s.plant.windowOpen then
          owing .energy 0x05 tag .done (encFlag false ++ enc2 s.plant.budget ++ enc2 0) closed
        else
          owing .energy 0x05 tag .done (encFlag false ++ enc2 s.plant.budget ++ enc2 s.plant.remaining) s))
    ∧ exec .windowExpiry s = .next (if s.plant.windowOpen ∧ s.plant.remaining = 0 then closed else s)

/-- PLANT STATUS from Port P (R126): a supply that names neither RUN nor DISCHARGE is refused RANGE; otherwise the four
fields are replaced together, clamped, and the age is 0. A DISCHARGE that arises is handed to both channels first
(R128), STALE then ends (R127), and dispatch is judged last (R130). That the Equalise Channel takes the DISCHARGE first,
so that the record of a round it ends at once precedes that of a dose, is the model's choice (assumption 45). That a
STALE handed over by a tick and not yet taken is dropped is the model's choice (assumption 53). The octets of the reply,
six fields with no presence octet, are the model's choice (assumption 27). -/
def Obligations.PlantStatusIsWritten : Prop :=
  ∀ (s : State) (tag supply : Octet) (volts load headroom : Quad), hears .plant s →
    (2 ≤ supply.toNat →
      exec (.plantStatus .plant tag supply volts load headroom) s = .next (owing .plant 0x01 tag .range [] s))
    ∧ (supply.toNat ≤ 1 →
      let v := clampTo 0 65535 volts.toInt
      let l := clampTo 0 32767 load.toInt
      let h := clampTo (-32768) 32767 headroom.toInt
      let written := { s with plant := { s.plant with
        report := some
          { discharge := supply = 1, busVoltage := v.toNat, load := l.toNat, headroom := h }
        age := 0, aged := false } }
      let handed :=
        if supply = 1 ∧ (s.plant.report.all fun r => !r.discharge) then
          decideWater .stopped (decideEqualise (.aborted .discharge) written)
        else written
      let fresh := { handed with plant := { handed.plant with stale := false, staleDue := false } }
      exec (.plantStatus .plant tag supply volts load headroom) s = .next
        (owing .plant 0x01 tag
          (if v = volts.toInt ∧ l = load.toInt ∧ h = headroom.toInt then .done else .doneClamped)
          ([supply] ++ enc2 v.toNat ++ enc2 l.toNat ++ enc2i h ++ enc2 0 ++ encFlag true)
          (judge (if s.plant.stale then removePause .stale fresh else fresh))))

/-- HOLD MAINTENANCE and RELEASE HOLD from Port P set and clear the hold, with HELD added to or removed from the pause
set (R129). STALE, taken once at the tick that found the age above the staleness time with STALE not standing, or
passing it with no report since the reset, joins the pause set and raises PLANT STALE (R127). The mark staleDue, by
which the tick hands STALE over, is the model's choice (assumption 8). The field aged, by which a passing is seen once,
is the model's reading (assumption 29); that STALE changes nothing where no tick has handed it over is the model's
choice (assumption 1). -/
def Obligations.HoldAndStale : Prop :=
  (∀ (s : State) (tag : Octet), hears .plant s →
    exec (.holdMaintenance .plant tag) s = .next (owing .plant 0x02 tag .done []
      (if s.plant.hold then s
      else judge (addPause .held { s with plant := { s.plant with hold := true } })))
    ∧ exec (.releaseHold .plant tag) s = .next (owing .plant 0x03 tag .done []
      (if s.plant.hold then judge (removePause .held { s with plant := { s.plant with hold := false } })
      else s)))
  ∧ (∀ s : State,
    let t := { s with plant := { s.plant with stale := true, staleDue := false } }
    exec .stale s = .next
      (if s.plant.staleDue then
        judge (raiseAll Notice.plantStale.mask (if s.plant.stale then t else addPause .stale t))
      else s))
  ∧ ∀ (limit : Nat) (w : PlantUnit), w.stale = false ∨ w.report = none →
      (w.tick limit).staleDue = (decide (limit < min 65535 (w.age + 1)) && (!w.stale || !w.aged))
      ∧ (w.tick limit).stale = w.stale

/-! ### The arbiter and the transactions of the loop -/

/-- The transaction that a grant puts in flight (R137, R138): no hold and no retry counted, the reply awaited after the
fixed delay in F and FH and from the end of the request in H and A, the delay of 0 ms being none (the model's reading:
assumption 15). -/
def granted (who : Claimant) (m : MemberNo) (c : LoopCommand) (s : State) : State :=
  let cls := s.settings.classes[m]
  { s with loop := { s.loop with inFlight := some (.transaction
    { claimant := who, member := m, command := c, cls := cls, holds := 0, retries := 0
      wait := if (cls.cls = .f ∨ cls.cls = .fh) ∧ cls.delay ≠ 0 then .delay else .reply }) } }

/-- The grant of a slot's request (R145): a WRITE CONFIG is judged again, and ends LOCKED with nothing sent where its string
is in EQUALISE or WATER by then; any other is carried out. -/
def slotGranted (p : SlotPort) (m : MemberNo) (c : LoopCommand) (s : State) : State :=
  let put := fun x : Slot =>
    { s with loop := match p with
      | .plant => { s.loop with plantSlot := x }
      | .service => { s.loop with serviceSlot := x } }
  let locked : Bool := match c, stringOf m with
    | .writeConfig _, some i => (match (recordOf s i).state with | .equalise _ | .water _ => true | _ => false)
    | _, _ => false
  if locked then raiseAll Notice.loopResultReady.mask (put (.done .locked))
  else granted (.slot p) m c (put .inFlight)

/-- The arbiter's grant (R144): the highest level with a pending claim is granted, in a free loop or in one whose
pending release does not meet R148; while anything is in flight, in a release and in the safe-state sequence nothing is
granted. The Demand Unit's poll carries its confirmation (R155), PUMP ON is noted as sent (R107), a SET POINT becomes
the setpoint last sent (R93), a close the valve record names by then is handed back (R29), and a slot's WRITE CONFIG is
judged again (R145). That LOOP_GRANT does nothing where it grants no claim, at a boundary that grants the release among
others, is the model's reading (assumption 13), and so is a fixed delay of 0 ms that is not awaited (assumption 15).
After a close handed back the scanner goes on, and that the next item is reached, and its string's installed flag
tested, when its claim is placed is the model's choice (assumption 35). -/
def Obligations.LoopGrantTakesTheHighestLevel : Prop :=
  (∀ s : State,
    s.loop.inFlight.isSome ∨ (s.loop.release = .pending ∧ grantConditions s)
      ∨ s.loop.release.place = Release.place (.released false)
      ∨ s.loop.release.place = Release.place (.safeState false none) → exec .loopGrant s = .next s)
  ∧ ∀ s : State, s.loop.inFlight = none →
      s.loop.release = .free ∨ (s.loop.release = .pending ∧ grantConditions s = false) →
      let l := s.loop
      let d := { s with loop := { l with claimDemand := none } }
      let w := { s with loop := { l with claimWater := none } }
      let e := { s with loop := { l with claimEqualise := none } }
      let p := { s with loop := { l with claimSweep := none } }
      exec .loopGrant s = .next
        (match l.claimDemand, l.claimSweep, l.claimWater, l.claimEqualise with
        | some .poll, _, _, _ =>
          { d with
            loop := { d.loop with inFlight := some (.poll s.demand.owed) }
            demand := { s.demand with poll := .inFlight } }
        | some (.config i), _, _, _ =>
          granted (.reconfiguration i) (nodeOf i) (.writeConfig (BitVec.ofNat 16 s.settings.threshold)) d
        | none, some (.summary i), _, _ => granted (.sweep (.summary i)) (nodeOf i) .readSummary p
        | none, some (.cells i), _, _ => granted (.sweep (.cells i)) (nodeOf i) .readCells p
        | none, some (.closeValve i), _, _ =>
          if s.wac.valve.holds i then sweepGoesOn (match s.sweep.run with | some (_ :: rest) => rest | _ => []) p
          else granted (.sweep (.closeValve i)) (nodeOf i) (.setValve false) p
        | none, none, some (.openValve i), _ => granted (.water (.openValve i)) (nodeOf i) (.setValve true) w
        | none, none, some (.closeValve i), _ => granted (.water (.closeValve i)) (nodeOf i) (.setValve false) w
        | none, none, some (.clearClose i), _ => granted (.water (.clearClose i)) (nodeOf i) (.setValve false) w
        | none, none, some .pumpOn, _ =>
          granted (.water .pumpOn) waterUnit .pumpOn
            { w with wac := { s.wac with dose := s.wac.dose.map fun x => { x with pumpOnSent := true } } }
        | none, none, some .pumpOff, _ => granted (.water .pumpOff) waterUnit .pumpOff w
        | none, none, some .faultPumpOff, _ => granted (.water .faultPumpOff) waterUnit .pumpOff w
        | none, none, some .clearPumpOff, _ => granted (.water .clearPumpOff) waterUnit .pumpOff w
        | none, none, some .check, _ => granted (.water .check) waterUnit .readWater w
        | none, none, some .reservoirPoll, _ => granted (.water .reservoirPoll) waterUnit .readWater w
        | none, none, some .dosePoll, _ => granted (.water .dosePoll) waterUnit .readWater w
        | none, none, none, some (.attach i) => granted (.equalise (.attach i)) boostUnit (.attach i) e
        | none, none, none, some (.setPoint sp) =>
          granted (.equalise (.setPoint sp)) boostUnit
            (.setPoint (BitVec.ofNat 16 sp.target) (BitVec.ofNat 16 sp.perm))
            { e with eqc := { s.eqc with
              round := s.eqc.round.map fun r => { r with acct := { r.acct with sent := some sp } } } }
        | none, none, none, some .connectStandby => granted (.equalise .connectStandby) boostUnit .standby e
        | none, none, none, some .pauseStandby => granted (.equalise .pauseStandby) boostUnit .standby e
        | none, none, none, some .refresh => granted (.equalise .refresh) boostUnit .standby e
        | none, none, none, some .detach => granted (.equalise .detach) boostUnit .detach e
        | none, none, none, some .faultDetach => granted (.equalise .faultDetach) boostUnit .detach e
        | none, none, none, some .clearDetach => granted (.equalise .clearDetach) boostUnit .detach e
        | none, none, none, none =>
          match l.serviceSlot, l.plantSlot with
          | .waiting m c, _ => slotGranted .service m c s
          | _, .waiting m c => slotGranted .plant m c s
          | _, _ => s)

/-- The attempts of a transaction (R137, R138). The fixed delay's end leaves the reply awaited. A HOLD reply is repeated
while the class allows it: never in F, up to the hold limit in H and FH, once in A, after the fixed delay. A silent or
spoiled attempt with fewer than two retries is sent again as a first request of the class. A whole reply with status OK and
the data of its command ends the transaction with ANSWER, one with ERROR with FAULT and the code. That a fixed delay of 0 ms is
not awaited is the model's reading (assumption 15); that REPLY_TIMEOUT and LOOP_REPLY_GAP change nothing while no reply
is awaited is the model's choice (assumption 1). -/
def Obligations.AttemptsAreRepeated : Prop :=
  ∀ (s : State) (t : Transaction), s.loop.inFlight = some (.transaction t) →
    let put := fun x : Transaction => { s with loop := { s.loop with inFlight := some (.transaction x) } }
    let again : Transaction := { t with
      retries := t.retries + 1
      wait := if (t.cls.cls = .f ∨ t.cls.cls = .fh) ∧ t.cls.delay ≠ 0 then .delay else .reply }
    let spoilt : LineChar := { LineChar.clean 0 with stop := 0 }
    exec .fixedDelay s = .next (put { t with wait := .reply })
    ∧ (t.wait = .reply → t.retries < 2 →
      exec .replyTimeout s = .next (put again) ∧ exec .loopReplyGap s = .next (put again)
      ∧ ∀ rest : List LineChar, exec (.loopReply (spoilt :: rest)) s = .next (put again))
    ∧ (t.wait = .reply →
      let length := match t.command with
        | .readSummary | .readBoost => 8
        | .readCells => 48
        | .standby => 4
        | .setPoint _ _ => 6
        | .readWater => 5
        | _ => 0
      (∀ data : List Octet, data.length = length →
        exec (.loopReply (onLine (replyFrame t.member t.command 0 data))) s
          = .next (endTransaction t (.answer data) s))
      ∧ ∀ code : Octet, exec (.loopReply (onLine (replyFrame t.member t.command 2 [code]))) s
          = .next (endTransaction t (.fault code) s))
    ∧ (t.wait = .reply →
      let hold := exec (.loopReply (onLine (replyFrame t.member t.command 1 []))) s
      (t.cls.cls = .h ∨ t.cls.cls = .fh → t.holds < t.cls.holdLimit →
        hold = .next (put { t with holds := t.holds + 1 }))
      ∧ (t.cls.cls = .a → t.holds = 0 →
        hold = .next (put { t with holds := 1, wait := if t.cls.delay = 0 then .reply else .autoRepeat }))
      ∧ (t.cls.cls = .f ∨ (t.cls.cls = .a ∧ t.holds ≠ 0)
          ∨ ((t.cls.cls = .h ∨ t.cls.cls = .fh) ∧ t.cls.holdLimit ≤ t.holds) →
        hold = .next (endTransaction t .holdExhausted s)))
    ∧ (t.wait ≠ .reply → exec .replyTimeout s = .next s ∧ exec .loopReplyGap s = .next s
      ∧ ∀ chars : List LineChar, exec (.loopReply chars) s = .next s)

/-- The safe-state sequence begun (R151): the closes of present nodes of installed strings in loop order, PUMP OFF and the
Boost Unit's step, the first of them sent. -/
def sequenceBegun (recorded : Bool) (s : State) : State :=
  let closes := ((stringsInLoopOrder s).filter fun i => isPresent s (nodeOf i)).map SafeStep.close
  let steps := closes ++ [SafeStep.pumpOff, .boost]
  sendStep (steps.headD .pumpOff)
    { s with loop := { s.loop with release := .safeState recorded (some steps.tail) } }

/-- What each claimant takes from the end of its transaction: its own step of the rounds, the sweep, the reconfiguration or
the slot. -/
def OutcomesAreHanded (s : State) : Prop :=
  ∀ (o : TxOutcome) (i : StringNo) (it : SweepItem) (p : SlotPort),
    handOutcome (.equalise (.attach i)) o s = attachEnded i o s
    ∧ handOutcome (.equalise .connectStandby) o s = connectStandbyEnded o s
    ∧ handOutcome (.equalise .pauseStandby) o s = pauseStandbyEnded o s
    ∧ handOutcome (.equalise .refresh) o s = refreshEnded o s
    ∧ handOutcome (.equalise .detach) o s = detachEnded o s
    ∧ handOutcome (.equalise .clearDetach) o s = clearDetachEnded o s
    ∧ handOutcome (.water .check) o s = checkEnded o s
    ∧ handOutcome (.water .reservoirPoll) o s = reservoirPollEnded o s
    ∧ handOutcome (.water (.openValve i)) o s = openValveEnded i o s
    ∧ handOutcome (.water .pumpOn) o s = pumpOnEnded o s
    ∧ handOutcome (.water .dosePoll) o s = dosePollEnded o s
    ∧ handOutcome (.water .pumpOff) o s = pumpOffEnded o s
    ∧ handOutcome (.water (.closeValve i)) o s = closeValveEnded o s
    ∧ handOutcome (.water .clearPumpOff) o s = clearPumpOffEnded o s
    ∧ handOutcome (.water (.clearClose i)) o s = clearCloseEnded i o s
    ∧ handOutcome (.sweep it) o s = sweepItemEnded it o s
    ∧ handOutcome (.reconfiguration i) o s = configEnded i o s
    ∧ (s.eqc.attachment = .empty → handOutcome (.equalise .faultDetach) o s = s)
    ∧ (s.wac.pump = .off → handOutcome (.water .faultPumpOff) o s = s)
    ∧ handOutcome (.slot p) o s = raiseAll Notice.loopResultReady.mask
      { s with loop := match p with
        | .plant => { s.loop with plantSlot := .done (.outcome o) }
        | .service => { s.loop with serviceSlot := .done (.outcome o) } }

/-- The marking absent of a member, handed on (R139): a bar NODE LOST on its string, BOOST LOST or PUMP LOST. -/
def markingHanded (m : MemberNo) (s : State) : State :=
  match stringOf m with
  | some i => bar i .nodeLost s
  | none =>
    if m = boostUnit then decideEqualise (.aborted .boostLost) s else decideWater (.aborted .pumpLost) s

/-- How a transaction addressed to `m` ends (R138, R139, R140): an answer marks the member present with no failure
counted, any other outcome counts one more, up to 3, and the third of a present member marks it absent. The claimant then
takes the outcome by `hand`, nothing being in flight any more. The marking absent is handed on as an event of its own,
after that or before it (a free value); before it, the transaction is still in flight (assumption 3). -/
def transactionEnds (m : MemberNo) (o : TxOutcome) (hand : State → State) (s : State) : State :=
  let answered : Bool := match o with | .answer _ => true | _ => false
  let count := if answered then 0 else min 3 (s.loop.failures[m] + 1)
  let lost : Bool := s.loop.present[m] && decide (count = 3)
  let counted := { s with
    loop := { s.loop with
      failures := s.loop.failures.set m count
      present := s.loop.present.set m (answered || (s.loop.present[m] && !lost)) }
    free := if lost then s.free + 1 else s.free }
  let taken := fun x : State => hand { x with loop := { x.loop with inFlight := none } }
  if lost = false then taken counted
  else if Config.markingFirst s.free then taken (markingHanded m counted)
  else markingHanded m (taken counted)

/-- The end of a transaction of any claimant but the safe-state sequence (R138, R139, R140): the presence table and the
failure counts follow the outcome, and the outcome is handed to the claimant: to the round or channel that waits for it
(R64, R65, R70, R71, R76, R104 to R108, R111 to R113), or to the slot with LOOP RESULT READY (R146); the
DETACH or PUMP OFF of an entry to FAULT from IDLE leaves records that are empty as they are (R79, R115). A third failure of a present member marks it absent and hands the marking on, before or after the outcome (a free value;
before it, the transaction is still in flight for its claimant, by the model's choice: assumption 3). A Service-slot
transaction of a release ends so too; where the release has ended meanwhile, the result is kept in the slot and the
safe-state sequence begins then (R149, R150; by the model's reading: assumption 14). -/
def Obligations.TransactionEndsAndCounts : Prop :=
  (∀ s : State, OutcomesAreHanded s)
  ∧ ∀ (s : State) (o : TxOutcome) (t : Transaction), s.loop.inFlight = some (.transaction t) →
    (∀ j : SafeJob, t.claimant ≠ .safeState j) →
    let next := fun x : State => match s.loop.release with
      | .safeState recorded none => sequenceBegun recorded x
      | _ => x
    endTransaction t o s =
      judgeDemand (judge (next (transactionEnds t.member o (handOutcome t.claimant o) s)))
    ∧ (t.wait = .reply → 2 ≤ t.retries →
      exec .replyTimeout s = .next (endTransaction t .noAnswer s)
      ∧ exec .loopReplyGap s = .next (endTransaction t .lineFault s))

/-! ### Loop release and pass-through -/

/-- TAKE LOOP from Port S and the grant of the release (R147, R148): BUSY while one is pending, granted or recorded; the
pending release joins LOOP RELEASE to the pause set and is granted at a boundary at which the records are empty and both
channels at rest, its timer at 0. That a request waiting in the Service slot is started by the grant is the model's
reading (assumption 14); RELEASE_GRANT at no such boundary does nothing (assumption 13). -/
def Obligations.ReleaseIsTakenAndGranted : Prop :=
  (∀ (s : State) (tag : Octet), hears .service s →
    (s.loop.release = .pending ∨ s.loop.release.place = Release.place (.released false) →
      exec (.takeLoop .service tag) s = .next (owing .service 0x13 tag .busy [] s))
    ∧ (s.loop.release = .free →
      let u := addPause .loopRelease { s with loop := { s.loop with release := .pending } }
      exec (.takeLoop .service tag) s = .next
        (if u.loop.inFlight = none ∧ grantConditions u then
          owing .service 0x13 tag .done [] (judge (grantRelease u))
        else owing .service 0x13 tag .accepted [] (judge u)))
    ∧ ∀ (recorded : Bool) (todo : Option (List SafeStep)), s.loop.release = .safeState recorded todo →
      exec (.takeLoop .service tag) s = .next
        (if recorded then owing .service 0x13 tag .busy [] s
        else owing .service 0x13 tag .accepted []
          (judge (addPause .loopRelease
            { s with loop := { s.loop with release := .safeState true todo } }))))
  ∧ ∀ s : State,
      let met : Bool := s.wac.valve = .empty && s.wac.pump = .off
        && (s.eqc.state = .idle || s.eqc.state = .paused || s.eqc.state = .fault)
        && (s.wac.state = .idle || s.wac.state = .fault)
      let t := { s with loop := { s.loop with release := .released false, releaseTimer := 0 } }
      exec .releaseGrant s = .next
        (if s.loop.inFlight = none ∧ s.loop.release = .pending ∧ met then
          judge (match s.loop.serviceSlot with
            | .waiting m c => slotGranted .service m c t
            | _ => t)
        else s)

/-- What the channels take from the transactions of the sequence (R82, R119, R151): a failed close bars its string CLOSE
FAILED; PUMP OFF serves a clear, and failed in IDLE takes the Water Channel to FAULT and withdraws a check or poll that
waits (DEDUCED: assumption 26); DETACH ends a decided round, serves a clear, empties the record in FAULT, and failed in
IDLE takes the Equalise Channel to FAULT; an answered ATTACH is recorded and a failed one decides NO ATTACH or BOOST
LOST; an answered STANDBY removes LOOP RELEASE unless a TAKE LOOP is recorded, and a failed one decides BOOST LOST. -/
def SequenceOutcomesAreHanded (s : State) : Prop :=
  ∀ (x : List Octet) (o : TxOutcome) (i : StringNo),
    let emptied := { s with eqc := { s.eqc with attachment := .empty } }
    safeJobEnded (.close i) (.answer x) s = s
    ∧ (s.wac.state = .idle → safeJobEnded .pumpOff (.answer x) s = s)
    ∧ (s.wac.state = .fault → s.wac.clear = false → safeJobEnded .pumpOff o s = s)
    ∧ (s.wac.state = .fault → s.wac.clear → safeJobEnded .pumpOff o s = clearPumpOffEnded o s)
    ∧ (s.eqc.state = .idle → safeJobEnded .detach (.answer x) s = s)
    ∧ (s.eqc.state = .fault → s.eqc.clear → safeJobEnded .detach o s = clearDetachEnded o s)
    ∧ (s.eqc.state = .fault → s.eqc.clear = false → safeJobEnded .detach (.answer x) s = emptied)
    ∧ (s.eqc.state = .paused ∨ s.eqc.state = .detach → safeJobEnded .detach o s = detachEnded o s)
    ∧ safeJobEnded (.attach i) (.answer x) s =
        { s with eqc := { s.eqc with attachment := .names i true } }
    ∧ (∀ todo, s.loop.release = .safeState true todo → safeJobEnded (.standby i) (.answer x) s = s)
    ∧ (∀ todo, s.loop.release = .safeState false todo →
      safeJobEnded (.standby i) (.answer x) s = removePause .loopRelease s)
    ∧ ((∀ d, o ≠ .answer d) →
      safeJobEnded (.close i) o s = bar i .closeFailed s
      ∧ (s.wac.state = .idle → safeJobEnded .pumpOff o s =
        raiseAll Notice.channelFault.mask { s with
          wac := { s.wac with
            state := .fault, pollTimer := none
            check := if s.loop.claimWater = some .check then none else s.wac.check }
          loop := { s.loop with
            claimWater :=
              if s.loop.claimWater = some .check ∨ s.loop.claimWater = some .reservoirPoll then none
              else s.loop.claimWater } })
      ∧ (s.eqc.state = .idle → safeJobEnded .detach o s =
        raiseAll Notice.channelFault.mask { s with eqc := { s.eqc with state := .fault } })
      ∧ (s.eqc.state = .fault → s.eqc.clear = false → safeJobEnded .detach o s = s)
      ∧ safeJobEnded (.attach i) o s =
        decideEqualise (.aborted (if o = .noAnswer ∨ o = .lineFault then .boostLost else .noAttach)) s
      ∧ safeJobEnded (.standby i) o s = decideEqualise (.aborted .boostLost) s)

/-- The end of a release (R149, R150, R151): at the limit, by the mark of RELEASED that the tick has set there (the
model's choice: assumption 8), or at GIVE LOOP in RELEASED, the safe-state sequence begins, or waits for an exchange in
flight (the model's reading: assumption 14); GIVE LOOP in PENDING frees the loop, in SAFE-STATE drops the record, and
otherwise finds nothing. RELEASE_LIMIT changes nothing where no limit has been reached (the model's choice: assumption
1). Each transaction of the sequence counts toward presence, its third failure of a present member handing the marking
on before or after the outcome (R139; a free value, the transaction still in flight for the marking that comes first:
assumption 3), and its outcome is handed to its channel, a failed PUMP OFF in IDLE withdrawing a check or poll that
waits (the model's reading: assumption 26); whatever its outcome the sequence goes on to its next step, a close of a
string uninstalled meanwhile left out (R1), and at its last step's end the loop is FREE, or PENDING where a TAKE LOOP is
recorded (R82, R119, R151). That the release timer keeps what it came to is the model's choice (assumption 46). -/
def Obligations.ReleaseEndsInTheSafeState : Prop :=
  (∀ s : State,
    let after := judge
      (if s.loop.inFlight = none then sequenceBegun false s
      else { s with loop := { s.loop with release := .safeState false none } })
    (∀ expired : Bool, s.loop.release = .released expired →
      exec .releaseLimit s = .next (if expired then after else s)
      ∧ ∀ tag : Octet, hears .service s →
        exec (.giveLoop .service tag) s = .next (owing .service 0x14 tag .done [] after))
    ∧ (s.loop.release = .pending → ∀ tag : Octet, hears .service s →
      exec (.giveLoop .service tag) s = .next (owing .service 0x14 tag .done []
        (judge (removePause .loopRelease { s with loop := { s.loop with release := .free } }))))
    ∧ (∀ (recorded : Bool) (todo : Option (List SafeStep)), s.loop.release = .safeState recorded todo →
      exec .releaseLimit s = .next s
      ∧ ∀ tag : Octet, hears .service s → exec (.giveLoop .service tag) s = .next
        (if recorded then
          owing .service 0x14 tag .done [] { s with loop := { s.loop with release := .safeState false todo } }
        else owing .service 0x14 tag .notFound [] s))
    ∧ (s.loop.release = .free → exec .releaseLimit s = .next s
      ∧ ∀ tag : Octet, hears .service s →
        exec (.giveLoop .service tag) s = .next (owing .service 0x14 tag .notFound [] s)))
  ∧ (∀ s : State, SequenceOutcomesAreHanded s)
  ∧ (∀ (s : State) (j : SafeJob) (o : TxOutcome),
    ((∀ i, j ≠ .attach i) ∨ (∀ d, o ≠ .answer d)) →
    ∀ (recorded : Bool) (steps : List SafeStep), s.loop.release = .safeState recorded (some steps) →
      let left := fun x : SafeStep => match x with | .close i => !isInstalled s i | _ => false
      safeGoesOn j o s =
        match steps.dropWhile left with
        | x :: rest => sendStep x { s with loop := { s.loop with release := .safeState recorded (some rest) } }
        | [] =>
          if recorded then { s with loop := { s.loop with release := .pending } }
          else removePause .loopRelease { s with loop := { s.loop with release := .free } })
  ∧ (∀ (s : State) (i : StringNo) (x : List Octet),
    safeGoesOn (.attach i) (.answer x) s = granted (.safeState (.standby i)) boostUnit .standby s
    ∧ sendStep (.close i) s = granted (.safeState (.close i)) (nodeOf i) (.setValve false) s
    ∧ (s.loop.claimWater ≠ some .clearPumpOff →
      sendStep .pumpOff s = granted (.safeState .pumpOff) waterUnit .pumpOff s)
    ∧ (s.loop.claimWater = some .clearPumpOff → sendStep .pumpOff s =
      granted (.safeState .pumpOff) waterUnit .pumpOff { s with loop := { s.loop with claimWater := none } })
    ∧ (∀ r : Round, openRound s = some r → s.eqc.state = .paused →
      sendStep .boost s = granted (.safeState (.attach r.string)) boostUnit (.attach r.string) s)
    ∧ (s.eqc.state ≠ .paused ∨ openRound s = none → sendStep .boost s =
      granted (.safeState .detach) boostUnit .detach
        { s with loop := { s.loop with claimEqualise :=
          if s.loop.claimEqualise = some .detach ∨ s.loop.claimEqualise = some .faultDetach
              ∨ s.loop.claimEqualise = some .clearDetach then none
          else s.loop.claimEqualise } }))
  ∧ ∀ (s : State) (o : TxOutcome) (t : Transaction) (j : SafeJob), t.claimant = .safeState j →
    s.loop.inFlight = some (.transaction t) →
      endTransaction t o s =
        judgeDemand (judge (safeGoesOn j o (transactionEnds t.member o (safeJobEnded j o) s)))

/-- LOOP TRANSACTION and LOOP RESULT (R145, R146), judged in the order of their tables; Port E owns no slot. A request
held waits for its grant, and in a release the Service port's is carried out at once. That one asked for in a release
with something in flight waits in its slot is the model's reading (assumption 14), and so is the range that passCommand
gives a threshold (assumption 18). The octets of a result are the model's choice (assumption 27). -/
def Obligations.SlotRequestsAnswer : Prop :=
  (∀ (s : State) (tag member command : Octet) (data : List Octet), data.length ≤ 59 → hears .plant s →
    (passCommand member command data = none → exec (.loopTransaction .plant tag member command data) s
      = .next (owing .plant 0x0C tag .range [] s))
    ∧ ∀ x : MemberNo × LoopCommand, passCommand member command data = some x →
      exec (.loopTransaction .plant tag member command data) s = .next
        (if !x.2.isRead then owing .plant 0x0C tag .notPermitted [] s
        else if s.loop.plantSlot ≠ .empty then owing .plant 0x0C tag .busy [] s
        else owing .plant 0x0C tag .accepted []
          { s with loop := { s.loop with plantSlot := .waiting x.1 x.2 } }))
  ∧ (∀ (s : State) (tag member command : Octet) (data : List Octet), data.length ≤ 59 → hears .service s →
    (passCommand member command data = none → exec (.loopTransaction .service tag member command data) s
      = .next (owing .service 0x0C tag .range [] s))
    ∧ ∀ x : MemberNo × LoopCommand, passCommand member command data = some x →
      let released : Bool := s.loop.release.place = Release.place (.released false)
      let held : Bool := (match stringOf x.1 with
        | some i => decide ((recordOf s i).state.holder ≠ .none)
        | none => false)
      exec (.loopTransaction .service tag member command data) s = .next
        (if !x.2.isRead ∧ !x.2.isConfig ∧ !released then owing .service 0x0C tag .notPermitted [] s
        else if s.loop.serviceSlot ≠ .empty then owing .service 0x0C tag .busy [] s
        else if x.2.isConfig ∧ held then owing .service 0x0C tag .locked [] s
        else owing .service 0x0C tag .accepted []
          (if released ∧ s.loop.inFlight = none then
            granted (.slot .service) x.1 x.2 { s with loop := { s.loop with serviceSlot := .inFlight } }
          else { s with loop := { s.loop with serviceSlot := .waiting x.1 x.2 } })))
  ∧ ∀ (s : State) (tag : Octet),
      (hears .plant s → exec (.loopResult .plant tag) s = .next
        (match s.loop.plantSlot with
          | .empty => owing .plant 0x0D tag .notFound [] s
          | .done r =>
            owing .plant 0x0D tag .done (slotResults r) { s with loop := { s.loop with plantSlot := .empty } }
          | _ => owing .plant 0x0D tag .busy [] s))
      ∧ (hears .service s → exec (.loopResult .service tag) s = .next
        (match s.loop.serviceSlot with
          | .empty => owing .service 0x0D tag .notFound [] s
          | .done r =>
            owing .service 0x0D tag .done (slotResults r)
              { s with loop := { s.loop with serviceSlot := .empty } }
          | _ => owing .service 0x0D tag .busy [] s))
      ∧ (hears .energy s →
        exec (.loopResult .energy tag) s = .next (owing .energy 0x0D tag .notPermitted [] s))

/-- LOOP RAW from Port S (R149): 1 to 56 octets, only in a release and with the Service slot empty; from another port it
is refused NOT PERMITTED. The octets are sent verbatim, up to 56 octets are collected with a mark of any spoiled
character, and LOOP RESULT READY is raised; an exchange that ends after its release has, is kept in the slot all the same
and the safe-state sequence begins then (R150; assumption 14). The order RANGE, NOT PERMITTED, BUSY is the model's choice
(assumption 30), and so is that RAW_COLLECTION_END with nothing in flight does nothing (assumption 1). -/
def Obligations.RawExchangeIsCollected : Prop :=
  (∀ (s : State) (tag : Octet) (octets : List Octet), hears .service s → octets.length ≤ 62 →
    let released : Bool := s.loop.release.place = Release.place (.released false)
    exec (.loopRaw .service tag octets) s = .next
      (if octets.length = 0 ∨ 56 < octets.length then owing .service 0x15 tag .range [] s
      else if !released then owing .service 0x15 tag .notPermitted [] s
      else if s.loop.serviceSlot ≠ .empty then owing .service 0x15 tag .busy [] s
      else owing .service 0x15 tag .accepted []
        { s with loop := { s.loop with serviceSlot := .inFlight, inFlight := some (.raw octets) } }))
  ∧ (∀ (s : State) (p : Port) (tag : Octet) (octets : List Octet), p ≠ .service → hears p s →
    octets.length ≤ 62 → exec (.loopRaw p tag octets) s = .next (owing p 0x15 tag .notPermitted [] s))
  ∧ (∀ (s : State) (chars : List LineChar) (sent : List Octet), s.loop.inFlight = some (.raw sent) →
    let got := (chars.filter LineChar.taken).take 56
    let t := raiseAll Notice.loopResultReady.mask
      { s with loop := { s.loop with
        inFlight := none
        serviceSlot := .done (.raw (got.map LineChar.octet) (got.any LineChar.spoiled)) } }
    (s.loop.release.place = Release.place (.released false) →
      exec (.rawCollectionEnd chars) s = .next (judge t))
    ∧ ∀ recorded : Bool, s.loop.release = .safeState recorded none →
      exec (.rawCollectionEnd chars) s = .next (judge (sequenceBegun recorded t)))
  ∧ ∀ (s : State) (chars : List LineChar), s.loop.inFlight = none → exec (.rawCollectionEnd chars) s = .next s

/-- The safe-state sequence has the step still to send (the model's reading that it is pending: assumption 33). -/
def stillToSend (x : SafeStep) (s : State) : Bool :=
  match s.loop.release with
  | .safeState _ (some steps) => steps.contains x
  | .safeState _ none => true
  | _ => false

/-- The claimant of what is in flight. -/
def inFlightFor (s : State) : Option Claimant :=
  match s.loop.inFlight with
  | some (.transaction t) => some t.claimant
  | _ => none

/-- A DETACH of the Equalise Channel, or of the sequence on its behalf, is pending or in flight (R80). -/
def detachIsOut (s : State) : Bool :=
  ([EqJob.detach, .faultDetach, .clearDetach].any fun j =>
    s.loop.claimEqualise = some j || inFlightFor s = some (.equalise j))
  || inFlightFor s = some (.safeState .detach) || stillToSend .boost s

/-- A clear of the Water Channel is outstanding, or a PUMP OFF of it, or of the sequence on its behalf, is pending or in
flight (R118). -/
def pumpOffIsOut (s : State) : Bool :=
  s.wac.clear
  || ([WaterJob.pumpOff, .faultPumpOff, .clearPumpOff].any fun j =>
    s.loop.claimWater = some j || inFlightFor s = some (.water j))
  || inFlightFor s = some (.safeState .pumpOff) || stillToSend .pumpOff s

/-- CLEAR CHANNEL from Port S (R80, R118): NOT FOUND outside FAULT; BUSY while a DETACH, or a clear or a PUMP OFF, is
out, that of a running safe-state sequence included (assumption 33); otherwise ACCEPTED with the claim placed. The clear's
DETACH and PUMP OFF then decide (R80, R118): an answered DETACH empties the record and returns the channel to IDLE, and a
failed one sets CHANNEL FAULT again and bars the string the record names; an answered PUMP OFF goes on to the close of a
valve the record names, or to IDLE where it names none, and a failed one ends the clear; an answered close empties the
record, releases a string still held and returns the channel to IDLE, and a failed one keeps the record unconfirmed, sets
CHANNEL FAULT again and bars the string CLOSE FAILED. -/
def Obligations.ClearChannelAnswers : Prop :=
  (∀ (s : State) (tag : Octet), hears .service s →
    (s.eqc.state ≠ .fault →
      exec (.clearChannelEqualise .service tag) s = .next (owing .service 0x12 tag .notFound [] s))
    ∧ (s.eqc.state = .fault →
      exec (.clearChannelEqualise .service tag) s = .next
        (if detachIsOut s then owing .service 0x12 tag .busy [] s
        else owing .service 0x12 tag .accepted []
          { s with
            eqc := { s.eqc with clear := true }
            loop := { s.loop with claimEqualise := some .clearDetach } }))
    ∧ (s.wac.state ≠ .fault →
      exec (.clearChannelWater .service tag) s = .next (owing .service 0x12 tag .notFound [] s))
    ∧ (s.wac.state = .fault →
      exec (.clearChannelWater .service tag) s = .next
        (if pumpOffIsOut s then owing .service 0x12 tag .busy [] s
        else owing .service 0x12 tag .accepted []
          { s with
            wac := { s.wac with clear := true }
            loop := { s.loop with claimWater := some .clearPumpOff } })))
  ∧ ∀ (s : State) (data : List Octet), s.eqc.state = .fault →
      clearDetachEnded (.answer data) s =
        { s with eqc := { s.eqc with state := .idle, attachment := .empty, clear := false } }
      ∧ ∀ o : TxOutcome, (∀ d, o ≠ .answer d) →
        let u := raiseAll Notice.channelFault.mask { s with eqc := { s.eqc with clear := false } }
        clearDetachEnded o s =
          (match s.eqc.attachment with
          | .names i _ => bar i .detachFailed u
          | .empty => u)
  ∧ ∀ (s : State) (data : List Octet) (o : TxOutcome) (i : StringNo),
      let off := { s.wac with pump := .off }
      let idle := fun w : Wac =>
        { w with state := .idle, clear := false, pollTimer := if w.reservoirLow then some 0 else none }
      (s.wac.valve.holds i → clearPumpOffEnded (.answer data) s =
        { s with
          wac := off
          loop := { s.loop with claimWater := some (.clearClose i) } })
      ∧ (s.wac.valve = .empty → clearPumpOffEnded (.answer data) s = { s with wac := idle off })
      ∧ (let t := { s with wac := idle { s.wac with valve := .empty } }
        clearCloseEnded i (.answer data) s =
          match (recordOf s i).state with
          | .water b => modString i (fun r =>
            { r with state := match b with | some c => .barred c | none => .float }) t
          | _ => t)
      ∧ ((∀ d, o ≠ .answer d) →
        clearPumpOffEnded o s =
          raiseAll Notice.channelFault.mask { s with wac := { s.wac with
            clear := false, pump := if s.wac.pump = .off then .off else .onUnconfirmed } }
        ∧ (s.wac.valve.holds i → clearCloseEnded i o s =
          let u := { s with wac := { s.wac with valve := .names i false } }
          let t := match (recordOf s i).state with
            | .water b =>
              let v := modString i (fun r => { r with state := .barred .closeFailed }) u
              if b = none then removeBarred i v else v
            | _ => bar i .closeFailed u
          raiseAll Notice.channelFault.mask { t with wac := { t.wac with clear := false } }))

/-! ### Demands -/

/-- The Demand Unit's one claim (R154, R158): a poll wanted in the idle state takes it, in the place of a pending
reconfiguration write; otherwise, with no poll claimed or in flight and no claim pending, the lowest listed node whose
wait is 0 is claimed. A write in flight runs to its end first, before a poll by R158 and before the next address by the
model's choice (assumption 51). A pending write claim stands though a lower address comes to wait 0, by the model's choice
(assumption 44). -/
def demandClaim (s : State) : State :=
  let writing : Bool := match s.loop.inFlight with
    | some (.transaction t) => (match t.claimant with | .reconfiguration _ => true | _ => false)
    | _ => false
  if writing ∨ s.demand.poll = .claimed ∨ s.demand.poll = .inFlight then s
  else if s.demand.poll = .idle ∧ (s.demand.line ∨ s.demand.owed.isSome) then
    { s with
      demand := { s.demand with poll := .claimed }
      loop := { s.loop with claimDemand := some .poll } }
  else
    { s with loop := { s.loop with claimDemand :=
        match s.loop.claimDemand with
        | some j => some j
        | none => ((List.finRange 8).find? fun i => s.demand.list[i] = some 0).map .config } }

/-- A restarted node in the reconfiguration list (R158): its wait is 0, and a write of it in flight counts for nothing. -/
def restarted (i : StringNo) (s : State) : State :=
  let writing : Bool := match s.loop.inFlight with
    | some (.transaction t) => decide (t.claimant = .reconfiguration i)
    | _ => false
  { s with demand := { s.demand with
    list := s.demand.list.set i (some 0)
    rewrite := s.demand.rewrite || writing } }

/-- The three events at which the Demand Unit judges its claim: the DEMAND line takes a level (the model's reading of the
command: assumption 10), the spacing after a failed poll ends (R154), and a wait of the list has run down (R158). That
the latter two change nothing where no spacing, or no wait, has ended is the model's choice (assumption 1). A reconfiguration
write that is answered takes its node off the list, one that fails has it wait 30 s, and one whose node restarted
meanwhile is written again at once (R158). That a pending write claim stands when a lower address comes to wait 0 is the
model's choice (assumption 44), and so is that the next listed address is claimed only once a write in flight has ended
(assumption 51). -/
def Obligations.DemandClaimIsJudged : Prop :=
  ∀ s : State,
    (∀ level : Bool, exec (.demandLineAsserted level) s
      = .next (demandClaim { s with demand := { s.demand with line := level } }))
    ∧ exec .pollSpacingEnd s = .next
      (if s.demand.poll = .spacing then demandClaim { s with demand := { s.demand with poll := .idle } }
      else s)
    ∧ ∀ i : StringNo, exec (.reconfigurationWaitEnd i) s = .next
      (if s.demand.list[i] = some 0 then demandClaim s else s)
    ∧ ∀ (data : List Octet) (o : TxOutcome),
      let wait := fun x : Option Nat =>
        { s with demand := { s.demand with rewrite := false, list := s.demand.list.set i x } }
      (s.demand.rewrite → configEnded i o s = wait (some 0))
      ∧ (s.demand.rewrite = false → configEnded i (.answer data) s = wait none)
      ∧ (s.demand.rewrite = false → (∀ d, o ≠ .answer d) → configEnded i o s = wait (some 30))

/-- The three ends of a demand poll (R156): an empty word part settles the confirmation; a word is owed its confirmation and
taken by R157; a spoiled or absent return, or a word whose address or kind is not of the tables, counts a failure, keeps
the confirmation and begins the spacing. That nothing happens with no poll in flight is the model's choice (assumption
1). -/
def Obligations.PollReturns : Prop :=
  (∀ (s : State) (owed : Option (MemberNo × DemandKind)) (w : DemandWord) (a b c : Octet) (chars : List LineChar)
      (conf : Option (MemberNo × DemandKind)), s.loop.inFlight = some (.poll conf) →
    let free := { s with loop := { s.loop with inFlight := none } }
    let returned := fun x : Option (MemberNo × DemandKind) =>
      { free with demand := { s.demand with poll := .idle, failures := 0, owed := x } }
    let failed := judgeDemand (judge { free with demand := { s.demand with
      poll := .spacing, failures := min 255 (s.demand.failures + 1) } })
    let spoilt : LineChar := { LineChar.clean 0 with stop := 0 }
    exec (.demandPollReturn (onLine (returnedPoll owed [0xFF, a, b, c]))) s
      = .next (judgeDemand (judge (returned none)))
    ∧ exec (.demandPollReturn (onLine (returnedPoll owed w.octets))) s
      = .next (judgeDemand (judge (takeWord w (returned (some (w.member, w.kind))))))
    ∧ (10 ≤ a.toNat ∧ a ≠ 0xFF ∨ a ≠ 0xFF ∧ (b = 0 ∨ 8 ≤ b.toNat) →
      exec (.demandPollReturn (onLine (returnedPoll owed [a, b, c, 0]))) s = .next failed)
    ∧ exec (.demandPollReturn (spoilt :: chars)) s = .next failed
    ∧ exec .pollReturnTimeout s = .next failed
    ∧ exec .loopReplyGap s = .next failed)
  ∧ ∀ (s : State) (chars : List LineChar), s.loop.inFlight = none →
      exec (.demandPollReturn chars) s = .next s ∧ exec .pollReturnTimeout s = .next s

/-- The action of a demand by kind and source (R79, R104, R115, R157, R158). A kind that does not belong to its source has
none. RESERVOIR LOW sets the flag in FAULT too (the model's reading: assumption 34). FLOW LEAK takes an IDLE channel to
FAULT with PUMP OFF claimed, marks a decided dose to end in FAULT, and decides an open one. -/
def Obligations.DemandActs : Prop :=
  ∀ (s : State) (i : StringNo) (v : Half),
    let word := fun (m : MemberNo) (k : DemandKind) => ({ member := m, kind := k, value := v } : DemandWord)
    let onRound := (s.eqc.round.map fun r => r.string) = some i
    let onDose := (s.wac.dose.map fun d => d.string) = some i
    let marked := { s with eqc := { s.eqc with round := s.eqc.round.map fun r => { r with faultAtEnd := true } } }
    let boost := fun c : Cause =>
      if s.eqc.state = .fault then s
      else if s.eqc.state = .idle then
        raiseAll Notice.channelFault.mask { s with
          eqc := { s.eqc with state := .fault }
          loop := { s.loop with claimEqualise := some .faultDetach } }
      else decideEqualise (.aborted c) marked
    demandAction (word (nodeOf i) .levelLow) s =
      (post { work := .water s.settings.dmax, string := i, urgency := .urgent, origin := .demand } s).1
    ∧ demandAction (word (nodeOf i) .overTemp) s =
      (if onRound then decideEqualise (.aborted .overTemp) s else s)
    ∧ demandAction (word (nodeOf i) .valveFault) s = bar i .valveFault s
    ∧ demandAction (word (nodeOf i) .nodeRestart) s =
      (let t := if onRound then decideEqualise (.aborted .nodeRestart) s else s
        let u := if onDose then decideWater (.aborted .nodeRestart) t else t
        restarted i u)
    ∧ (∀ k : DemandKind, k = .boostFault ∨ k = .reservoirLow ∨ k = .flowLeak →
      demandAction (word (nodeOf i) k) s = s)
    ∧ demandAction (word boostUnit .boostFault) s = boost .boostFault
    ∧ demandAction (word boostUnit .nodeRestart) s = boost .nodeRestart
    ∧ (∀ k : DemandKind, k ≠ .boostFault ∧ k ≠ .nodeRestart → demandAction (word boostUnit k) s = s)
    ∧ demandAction (word waterUnit .nodeRestart) s = decideWater (.aborted .nodeRestart) s
    ∧ demandAction (word waterUnit .reservoirLow) s =
      (if s.wac.reservoirLow then s
      else { s with wac := { s.wac with
        reservoirLow := true, pollTimer := if s.wac.state = .idle then some 0 else s.wac.pollTimer } })
    ∧ (∀ k : DemandKind, k ≠ .nodeRestart ∧ k ≠ .reservoirLow ∧ k ≠ .flowLeak →
      demandAction (word waterUnit k) s = s)
    ∧ (s.wac.state = .fault → demandAction (word waterUnit .flowLeak) s = s)
    ∧ (let leaked := { s with wac := { s.wac with dose := s.wac.dose.map fun d => { d with faultAtEnd := true } } }
      ((openDose s).isSome → demandAction (word waterUnit .flowLeak) s =
        decideWater (.aborted .flowLeak) leaked)
      ∧ (openDose s = none → s.wac.state ≠ .idle → s.wac.state ≠ .fault →
        demandAction (word waterUnit .flowLeak) s = leaked))
    ∧ (s.wac.state = .idle → demandAction (word waterUnit .flowLeak) s =
      raiseAll Notice.channelFault.mask { s with
        wac := { s.wac with
          state := .fault, pollTimer := none
          check := if s.loop.claimWater = some .check then none else s.wac.check }
        loop := { s.loop with claimWater := some .faultPumpOff } })

/-- The Demand FIFO (R157, R159, R160): a word's action is taken first and the word is then appended with the site time, or
dropped at a full FIFO and counted, each with its notice; READ DEMANDS removes up to 8 of the oldest and returns them;
CLEAR OVERFLOW clears flag and count, and finds nothing while the flag is clear. From another port each is refused NOT
PERMITTED. The octets of the READ DEMANDS reply, with their presence bits and one count octet, are the model's choice
(assumption 27). -/
def Obligations.FifoTakesAndGives : Prop :=
  (∀ (s : State) (w : DemandWord),
    let u := demandAction w s
    takeWord w s =
      if u.demand.fifo.length < 32 then
        (let t := { u with demand := { u.demand with fifo := u.demand.fifo ++ [{ word := w, time := u.clock }] } }
          if u.demand.fifo = [] then raiseAll Notice.demandPending.mask t else t)
      else
        (let t := { u with demand := { u.demand with
            overflow := true, dropped := min 255 (u.demand.dropped + 1) } }
          if u.demand.overflow then t else raiseAll Notice.demandOverflow.mask t))
  ∧ (∀ (s : State) (p : Port) (tag : Octet), p ≠ .service → hears p s →
    exec (.readDemands p tag) s = .next (owing p 0x16 tag .notPermitted [] s)
    ∧ exec (.clearOverflow p tag) s = .next (owing p 0x17 tag .notPermitted [] s))
  ∧ ∀ (s : State) (tag : Octet), hears .service s →
      (let taken := s.demand.fifo.take 8
        let rest := s.demand.fifo.drop 8
        exec (.readDemands .service tag) s = .next (owing .service 0x16 tag .done
          (packBits (taken.map fun e => e.time.isSome) ++ enc1 taken.length
            ++ taken.flatMap (fun e => e.word.octets ++ octetsOfQuad (e.time.getD 0))
            ++ enc1 rest.length ++ encFlag s.demand.overflow ++ enc1 s.demand.dropped)
          { s with demand := { s.demand with fifo := rest } }))
      ∧ exec (.clearOverflow .service tag) s = .next
        (if s.demand.overflow then
          owing .service 0x17 tag .done [] { s with demand := { s.demand with overflow := false, dropped := 0 } }
        else owing .service 0x17 tag .notFound [] s)

/-! ### The master ports -/

/-- The reads: each is answered from the state as it stands, at any port that Table 10.3 permits, and changes nothing
but the reply owed (R18, R57, R83, R121, R132, R133, R153, R161, R167, R169, R173, R175). A string, an index or an
identifier out of range is refused RANGE, and an empty log place NOT FOUND. The octets of the results are the model's
choices where the spec leaves them open: the codes, the presence bits, the counts and the orders (assumption 27), the
absent cause of a record (DEDUCED: assumption 28) and its summary without the bus values (assumption 39), the claimant
shown for a transaction of the safe-state sequence (a free value: assumption 7) and for a raw exchange (assumption 37),
and level 1 shown as pending in release state PENDING alone (assumption 43). -/
def Obligations.ReadsChangeNothing : Prop :=
  ∀ (s : State) (tag : Octet),
    (∀ p : Port, hears p s →
      (∀ i : Octet, exec (.readString p tag i) s = .next
        (match finOf 8 i with
          | some x => owing p 0x07 tag .done (stringResults x s) s
          | none => owing p 0x07 tag .range [] s))
      ∧ exec (.readRoundsQueue p tag) s = .next (owing p 0x08 tag .done (queueResults s) s)
      ∧ exec (.readRoundsEqualise p tag) s = .next (owing p 0x08 tag .done (equaliseResults s) s)
      ∧ exec (.readRoundsWater p tag) s = .next (owing p 0x08 tag .done (waterResults s) s)
      ∧ exec (.readRoundsSite p tag) s = .next (owing p 0x08 tag .done (siteResults s) s)
      ∧ exec (.readRoundsLoop p tag) s = .next (owing p 0x08 tag .done (loopResults s) s)
      ∧ exec (.readRoundsDemand p tag) s = .next (owing p 0x08 tag .done (demandResults s) s)
      ∧ exec (.readNotices p tag) s = .next (owing p 0x09 tag .done (noticesResults p s) s))
    ∧ (hears .energy s → exec (.readForecast .energy tag) s = .next
      (let rounds := s.queue.filter fun e => e.kind = .equalise
        let energies := rounds.map fun e => match e.work with
          | .equalise n => (s.settings.recipes[n]).nominalEnergy
          | .water _ => 0
        let running := match s.eqc.round with
          | some r => r.recipe.nominalEnergy - r.acct.energy / 36000000
          | none => 0
        owing .energy 0x06 tag .done
          (enc1 rounds.length ++ enc1 (rounds.filter (·.urgent)).length ++ encFlag s.eqc.round.isSome
            ++ enc4 (energies.sum + running) ++ encFlag s.plant.windowOpen ++ enc2 s.plant.budget
            ++ enc2 s.plant.remaining ++ encFlag s.plant.windowNeeded) s))
    ∧ (hears .service s → ∀ g i : Octet, exec (.readLogRecord .service tag g i) s = .next
      (if h : g.toNat < 4 ∧ i.toNat < 16 then
        match s.log.places[g.toNat * 16 + i.toNat]'(by omega) with
        | some r => owing .service 0x18 tag .done (recordResults r s.log) s
        | none => owing .service 0x18 tag .notFound [] s
      else owing .service 0x18 tag .range [] s))
    ∧ (hears .service s → ∀ i x : Octet, exec (.readSetting .service tag i x) s = .next
      (match Setting.named i x with
        | some n => owing .service 0x1B tag .done (settingOctets s.settings n ++ encFlag s.store.modified) s
        | none => owing .service 0x1B tag .range [] s))

/-- ACK NOTICES removes the pending sources of the mask and returns them, and SET NOTICE ENABLES replaces the enable set, at
the requesting port alone; a mask with a bit above 11 is refused RANGE (R169). A raise sets its sources in the pending set
of every port, and a port's attention line is asserted exactly while some source is both pending and enabled (R168). -/
def Obligations.NoticesAreAnswered : Prop :=
  ∀ (s : State) (p : Port) (tag : Octet) (mask : Half), hears p s →
    let u := s.ports.get p
    (4096 ≤ mask.toNat →
      exec (.ackNotices p tag mask) s = .next (owing p 0x0A tag .range [] s)
      ∧ exec (.setNoticeEnables p tag mask) s = .next (owing p 0x0B tag .range [] s))
    ∧ (mask.toNat < 4096 →
      let m : NoticeSet := mask.setWidth 12
      exec (.ackNotices p tag mask) s = .next
        (owing p 0x0A tag .done (octetsOfHalf ((u.pending &&& m).setWidth 16))
          { s with ports := s.ports.put p { u with pending := u.pending &&& ~~~m } })
      ∧ exec (.setNoticeEnables p tag mask) s = .next
        (owing p 0x0B tag .done (octetsOfHalf mask)
          { s with ports := s.ports.put p { u with enabled := m } }))
    ∧ (∀ sources : NoticeSet,
      (raiseAll sources s).ports.get p = { u with pending := u.pending ||| sources })
    ∧ (u.attention ↔ ∃ n : Notice, u.pending.getLsbD n.bit ∧ u.enabled.getLsbD n.bit)

/-- The receive states of a port (R164): a marker begins a frame in HUNT and any other or a spoiled character is discarded;
the length is judged, body octets are stored, a spoiled one spoils the frame, and octets in REPLY OWED and RESYNC are discarded; the gap and the idle
timer lead to HUNT. A complete frame with a spoiled character, a wrong check or an unknown code leads to RESYNC, and so
does a bad length (at once, by the model's choice: assumption 16). That the two timers' events change nothing in other
states is the model's choice (assumption 1), and so is what BAD_FRAME means where its characters complete no bad frame
(assumption 19). -/
def Obligations.ReceiveStatesFollowTheLine : Prop :=
  ∀ (s : State) (p : Port) (o : Octet) (char : LineChar),
    let spoilt : LineChar := { LineChar.clean o with stop := 0 }
    (rxOf s p = .hunt →
      exec (.characterReceived p (.clean o)) s =
        .next (if o = 0xA5 then setRx p (.frame none [] false) s else s)
      ∧ exec (.characterReceived p spoilt) s = .next s
      ∧ exec (.frameGapTimeout p) s = .next s ∧ exec (.resyncIdle p) s = .next s
      ∧ (o ≠ 0xA5 → exec (.badFrame p (onLine [0xA5, 2, o, o, o + o])) s
        = .next (if 4 * o + 2 = 0 ∧ knownCode o then s else setRx p .resync s)))
    ∧ (∀ (buffer : List Octet) (spoiled : Bool), rxOf s p = .frame none buffer spoiled →
      exec (.characterReceived p (.clean o)) s = .next
        (if o.toNat < 2 ∨ 64 < o.toNat then setRx p .resync s else setRx p (.frame (some o) [] spoiled) s)
      ∧ exec (.characterReceived p spoilt) s = .next
        (if o.toNat < 2 ∨ 64 < o.toNat then setRx p .resync s else setRx p (.frame (some o) [] true) s)
      ∧ exec (.frameGapTimeout p) s = .next (setRx p .hunt s))
    ∧ (∀ (n : Octet) (buffer : List Octet) (spoiled : Bool), rxOf s p = .frame (some n) buffer spoiled →
      exec (.frameGapTimeout p) s = .next (setRx p .hunt s)
      ∧ (buffer.length < n.toNat →
        exec (.characterReceived p (.clean o)) s = .next (setRx p (.frame (some n) (buffer ++ [o]) spoiled) s)
        ∧ exec (.characterReceived p spoilt) s = .next (setRx p (.frame (some n) (buffer ++ [o]) true) s))
      ∧ (buffer.length = n.toNat →
        (spoiled ∨ octetSum (n :: buffer) + o ≠ 0 ∨ knownCode (buffer.headD 0) = false →
          exec (.characterReceived p (.clean o)) s = .next (setRx p .resync s)
          ∧ exec (.badFrame p [.clean o]) s = .next (setRx p .resync s))
        ∧ exec (.characterReceived p spoilt) s = .next (setRx p .resync s)))
    ∧ (rxOf s p = .resync → exec (.resyncIdle p) s = .next (setRx p .hunt s)
      ∧ exec (.characterReceived p char) s = .next s ∧ exec (.badFrame p [char]) s = .next s)
    ∧ ∀ r : Reply, rxOf s p = .replyOwed r →
      exec (.characterReceived p char) s = .next s ∧ exec (.resyncIdle p) s = .next s
      ∧ exec (.frameGapTimeout p) s = .next s ∧ exec (.badFrame p [char]) s = .next s

/-- A request frame that arrives character by character in HUNT is the request (R164, R165): the characters of Table 10.5
leave the state that the request's own command leaves, for every request and tag that has one in the opcode table. That
a request command in HUNT stands for the whole frame is the model's choice (assumption 19). -/
def Obligations.CharactersMakeTheRequest : Prop :=
  ∀ (s : State) (p : Port) (tag : Octet) (r : Request), hears p s → r.params.length ≤ 62 →
    (∀ m c d, r = .loopTransaction m c d → d.length ≤ 59) →
    (receiveChars p (onLine (r.frame tag)) s =
      if permitted p r.code then
        (if r.wellShaped then serve p tag r s else owing p r.code tag .range [] s)
      else owing p r.code tag .notPermitted [] s)
    ∧ ∀ c : Instr, commandOf p tag r = some c → exec c s = .next (receiveChars p (onLine (r.frame tag)) s)

/-! ### Settings, store, clock and log -/

/-- WRITE SETTING from Port S (R175): an identifier or index that Table 10.11 does not give is refused RANGE; a refusal
of the owner's checks comes before BUSY while STORING; a setting taken reaches the working settings, sets the modified
mark and carries its consequences. A number in range, a schedule entry, a class entry, the loop map and a recipe
parameter are left as written, and nothing beside them, a schedule field of the other kind being ignored (R39). Refused
RANGE are a value of another length; a number outside its range; an installed flag above 01h; a schedule entry with a
field outside Table 3.3, an octet that Table 10.11 does not give, or a new kind without its fields (R39); a class entry
outside its bounds; a map with an address above 9 or a repeated one; a recipe parameter outside Table 5.3, or one that
would leave the recipe against R86. A recipe that a round holds is refused LOCKED. An installed flag goes from yes to no
for a string in FLOAT or BARRED that no queue entry and no record names, and is refused LOCKED otherwise (R17). What a
setting taken does at once (R45, R109, R158): a lowered Dmax lowers the limits of queued WATER entries and of the
running dose; a threshold written lists every installed string's node with wait 0, and a string made installed its own;
the others do nothing. That a threshold written with the value it holds still lists the nodes is the model's reading
(assumption 24). That a pending write claim stands beside a lower address listed (assumption 44), and that no address is
claimed while a write is in flight (assumption 51), are its choices. -/
def Obligations.SettingIsWritten : Prop :=
  (∀ (s : State) (tag identifier index : Octet) (value : List Octet), hears .service s → value.length ≤ 60 →
    (Setting.named identifier index = none → exec (.writeSetting .service tag identifier index value) s
      = .next (owing .service 0x1A tag .range [] s))
    ∧ (∀ x : Setting, Setting.named identifier index = some x →
      exec (.writeSetting .service tag identifier index value) s = .next
        (match judgeWrite s x value with
          | .refused st => owing .service 0x1A tag st [] s
          | .taken t =>
            if s.store.storing then owing .service 0x1A tag .busy [] s
            else owing .service 0x1A tag .done []
              (consequences s.settings x
                { s with settings := t, store := { s.store with modified := true } })))
    ∧ ∀ (n : NumberSetting) (v : Int), n.range.1 ≤ v ∧ v ≤ n.range.2 →
      judgeWrite s (.number n) (if n.single then enc1 v.toNat else enc2i v) = .taken (n.set s.settings v)
      ∧ n.get (n.set s.settings v) = v
      ∧ (∀ k : NumberSetting, k ≠ n → k.get (n.set s.settings v) = k.get s.settings)
      ∧ (n.set s.settings v).recipes = s.settings.recipes ∧ (n.set s.settings v).loopMap = s.settings.loopMap
      ∧ (n.set s.settings v).schedule = s.settings.schedule ∧ (n.set s.settings v).classes = s.settings.classes
      ∧ (n.set s.settings v).installed = s.settings.installed)
  ∧ (∀ (s : State) (n : NumberSetting) (v : Int) (value : List Octet),
    (value.length ≠ (if n.single then 1 else 2) → judgeWrite s (.number n) value = .refused .range)
    ∧ (v < n.range.1 ∨ n.range.2 < v →
      (if n.single then 0 ≤ v ∧ v < 256
        else if n.range.1 < 0 then -32768 ≤ v ∧ v < 32768 else 0 ≤ v ∧ v < 65536) →
      judgeWrite s (.number n) (if n.single then enc1 v.toNat else enc2i v) = .refused .range))
  ∧ (∀ (s : State) (k : Fin 24) (e : ScheduleEntry) (otherKind : Bool) (x y z : Octet), e.valid →
    judgeWrite s (.schedule k)
        (match e.work with
        | .equalise r t =>
          [if e.enabled then 1 else 0, 0, BitVec.ofNat 8 e.string.val, if otherKind then 7 else 5,
            BitVec.ofNat 8 r.val, x, y] ++ enc2 e.interval ++ enc2 t
        | .water n =>
          [if e.enabled then 1 else 0, 1, BitVec.ofNat 8 e.string.val, if otherKind then 7 else 2, x] ++ enc2 n
            ++ enc2 e.interval ++ [y, z])
      = .taken { s.settings with schedule := s.settings.schedule.set k e })
  ∧ (∀ (s : State) (k : Fin 24) (en kind string given recipe d₁ d₂ i₁ i₂ t₁ t₂ : Octet),
    let limit := (halfOf d₁ d₂).toNat
    let interval := (halfOf i₁ i₂).toNat
    let trigger := (halfOf t₁ t₂).toNat
    let givesRecipe := given.getLsbD 0
    let givesLimit := given.getLsbD 1
    let givesTrigger := given.getLsbD 2
    let wasWater : Bool := match s.settings.schedule[k].work with | .water _ => true | .equalise _ _ => false
    1 < en.toNat ∨ 1 < kind.toNat ∨ 7 < string.toNat ∨ 7 < given.toNat ∨ interval = 0 ∨ 4000 < interval
      ∨ (kind = 0 ∧ (givesRecipe ∧ 3 < recipe.toNat ∨ givesTrigger ∧ 10000 < trigger
          ∨ wasWater = true ∧ (givesRecipe && givesTrigger) = false))
      ∨ (kind = 1 ∧ (givesLimit ∧ (limit = 0 ∨ 10000 < limit) ∨ wasWater = false ∧ givesLimit = false)) →
    judgeWrite s (.schedule k) [en, kind, string, given, recipe, d₁, d₂, i₁, i₂, t₁, t₂] = .refused .range)
  ∧ (∀ (s : State) (k : Fin 24) (m : MemberNo) (i : StringNo) (r : Fin 4) (p : RecipeParam) (value : List Octet),
    (value.length ≠ 11 → judgeWrite s (.schedule k) value = .refused .range)
    ∧ (value.length ≠ 3 → judgeWrite s (.classEntry m) value = .refused .range)
    ∧ (value.length ≠ 1 → judgeWrite s (.installed i) value = .refused .range)
    ∧ (value.length ≠ 2 → judgeWrite s (.recipe r p) value = .refused .range)
    ∧ (value.length ≠ 10 ∨ (∃ o ∈ value, 9 < o.toNat) → judgeWrite s .loopMap value = .refused .range))
  ∧ (∀ (s : State) (m : MemberNo) (c : AccessClass) (delay hold : Octet),
    delay.toNat ≤ 250 → 1 ≤ hold.toNat → hold.toNat ≤ 20 →
    let e : ClassEntry := { cls := c, delay := delay.toNat, holdLimit := hold.toNat }
    judgeWrite s (.classEntry m) [match c with | .f => 0 | .h => 1 | .fh => 2 | .a => 3, delay, hold]
      = .taken { s.settings with classes := s.settings.classes.set m e })
  ∧ (∀ (s : State) (m : MemberNo) (c delay hold : Octet),
    3 < c.toNat ∨ 250 < delay.toNat ∨ hold = 0 ∨ 20 < hold.toNat →
      judgeWrite s (.classEntry m) [c, delay, hold] = .refused .range)
  ∧ (∀ (s : State) (map : Vector MemberNo 10),
    judgeWrite s .loopMap (map.toList.map fun m => BitVec.ofNat 8 m.val)
      = if map.toList.Nodup then .taken { s.settings with loopMap := map } else .refused .range)
  ∧ (∀ (s : State) (i : StringNo) (o : Octet),
    let flag := fun b : Bool => { s.settings with installed := s.settings.installed.set i b }
    let resting : Bool := match (recordOf s i).state with | .float | .barred _ => true | _ => false
    let named : Bool := s.queue.any (fun e => e.string = i) || s.eqc.attachment.holds i || s.wac.valve.holds i
    judgeWrite s (.installed i) [1] = .taken (flag true)
    ∧ judgeWrite s (.installed i) [0] =
      (if s.settings.installed[i] ∧ (!resting ∨ named) then .refused .locked else .taken (flag false))
    ∧ (1 < o.toNat → judgeWrite s (.installed i) [o] = .refused .range))
  ∧ (∀ (s : State) (r : Fin 4) (p : RecipeParam) (v : Int), p.range.1 ≤ v ∧ v ≤ p.range.2 →
    let rc := p.set s.settings.recipes[r] v
    p.get rc = v ∧ (∀ q : RecipeParam, q ≠ p → q.get rc = q.get s.settings.recipes[r])
    ∧ judgeWrite s (.recipe r p) (enc2i v) =
      if rc.maxHold < rc.minHold ∨ rc.ilim < rc.imin then .refused .range
      else if s.eqc.round.map Round.recipeNo = some r then .refused .locked
      else .taken { s.settings with recipes := s.settings.recipes.set r rc })
  ∧ (∀ (s : State) (r : Fin 4) (p : RecipeParam) (v : Int), -32768 ≤ v ∧ v < 32768 →
    v < p.range.1 ∨ p.range.2 < v → judgeWrite s (.recipe r p) (enc2i v) = .refused .range)
  ∧ ∀ (s : State) (before : Settings),
    consequences before (.number .dmax) s =
      (if s.settings.dmax < before.dmax then
        { s with
          queue := s.queue.map fun e => match e.work with
            | .water n => { e with work := .water (min n s.settings.dmax) }
            | .equalise _ => e
          wac := { s.wac with dose := s.wac.dose.map fun d => { d with limit := min d.limit s.settings.dmax } } }
      else s)
    ∧ consequences before (.number .threshold) s =
      demandClaim { s with demand := { s.demand with
        list := Vector.ofFn fun i => if isInstalled s i then some 0 else s.demand.list[i] } }
    ∧ (∀ i : StringNo, consequences before (.installed i) s =
      if isInstalled s i ∧ before.installed[i] = false then
        demandClaim { s with demand := { s.demand with list := s.demand.list.set i (some 0) } }
      else s)
    ∧ (∀ n : NumberSetting, n ≠ .dmax → n ≠ .threshold → consequences before (.number n) s = s)
    ∧ (∀ k : Fin 24, consequences before (.schedule k) s = s)
    ∧ (∀ m : MemberNo, consequences before (.classEntry m) s = s)
    ∧ (∀ (r : Fin 4) (p : RecipeParam), consequences before (.recipe r p) s = s)
    ∧ consequences before .loopMap s = s

/-- STORE SETTINGS copies the working settings, whose check does not hold until the rewrite completes; completion writes
the check, clears the mark and raises SETTINGS STORED (R176). SET CLOCK takes any value (R178). RELEASE SEGMENT clears
the flag of a full segment and takes it out of the overrun set (R173). That the copy stands whole from the request on is
the model's choice (assumption 54). STORE_COMPLETE with no store under way changes nothing, which is the model's choice
(assumption 1). -/
def Obligations.StoreClockAndSegment : Prop :=
  (∀ (s : State) (tag : Octet), hears .service s →
    exec (.storeSettings .service tag) s = .next
      (if s.store.storing then owing .service 0x1C tag .busy [] s
      else owing .service 0x1C tag .accepted [] { s with store := { s.store with
        copy := s.settings, checkHolds := false, storing := true } })
    ∧ (∀ t : Quad, exec (.setClock .service tag t) s
      = .next (owing .service 0x1D tag .done (octetsOfQuad t) { s with clock := some t }))
    ∧ (∀ g : Octet, 4 ≤ g.toNat →
      exec (.releaseSegment .service tag g) s = .next (owing .service 0x19 tag .range [] s))
    ∧ ∀ g : Fin 4, exec (.releaseSegment .service tag (BitVec.ofNat 8 g.val)) s = .next
      (if s.log.full[g] then
        owing .service 0x19 tag .done [] { s with log := { s.log with
          full := s.log.full.set g false, overrun := s.log.overrun.set g false } }
      else owing .service 0x19 tag .notFound [] s))
  ∧ ∀ s : State, exec .storeComplete s = .next
      (if s.store.storing then
        raiseAll Notice.settingsStored.mask { s with store := { s.store with
          checkHolds := true, storing := false, modified := false, defaulted := false } }
      else s)

/-! ### What every step keeps -/

/-- The Round Queue keeps its bound and holds no two entries of one kind and string (R44) and none that names a barred
string or one whose bar is pending (R51); the Demand FIFO keeps its bound (R159); the records of the log stay consecutive
in write order (R171). -/
def Obligations.StepKeepsQueuesAndLog : Prop :=
  ∀ s t : State, step s = .next t →
    (queueKept s → queueKept t) ∧ (queueClearOfBars s → queueClearOfBars t) ∧ (fifoKept s → fifoKept t)
    ∧ (logConsecutive s.log → logConsecutive t.log)

/-- String records and settings stay in the ranges of their tables. Of a record these are the voltage, current,
temperature and temperature age, the cell voltages, the throughput with its remainder, the hours since equalise and
since water, and the water total (Table 1.2), for every state; and settle remaining, 0 to 240 min, where the settings
and the recipe that the round has copied lie in their ranges, as that copy then does after the step (R10, R60). Of the
settings these are every parameter (R86, R175), and those of the store's copy, which by the model's choice stands whole
behind a failed check too (assumption 54). -/
def Obligations.StepKeepsTheRanges : Prop :=
  ∀ s t : State, step s = .next t →
    (recordsInRange s → recordsInRange t) ∧ (settingsKept s → settingsKept t)
    ∧ (settingsKept s → settleKept s → settleKept t)

/-- Every string that a channel holds is the string of its round or dose, and each round's and each dose's string is held
by its channel, at most one string a channel (R6, R62, R103); a Water Channel in FAULT may hold the string of its valve
record (R112). Every step keeps this in a state whose channels, claims and transactions in flight agree with one another,
and keeps that agreement (R80, R118, R119, R144, R148). -/
def Obligations.StepKeepsTheHolders : Prop :=
  ∀ s t : State, step s = .next t → holdersKept s → workKept s → holdersKept t ∧ workKept t

/-- A decided outcome stands (R74, R110): after any step the round or dose it was decided for is gone, or it carries the
same outcome. A round or dose that follows it in the same step is undecided and bears a number drawn in that step
(R61). -/
def Obligations.DecidedOutcomeStands : Prop :=
  ∀ s t : State, step s = .next t →
    (∀ r : Round, s.eqc.round = some r → r.outcome.isSome →
      t.eqc.round = none
      ∨ (∃ x : Round, t.eqc.round = some x ∧ x.outcome = r.outcome ∧ x.number = r.number)
      ∨ (∃ x : Round, t.eqc.round = some x ∧ x.outcome = none ∧ x.number ≠ s.log.roundNumber
        ∧ (x.number - s.log.roundNumber).toNat ≤ (t.log.roundNumber - s.log.roundNumber).toNat))
    ∧ ∀ d : Dose, s.wac.dose = some d → d.outcome.isSome →
      t.wac.dose = none
      ∨ (∃ x : Dose, t.wac.dose = some x ∧ x.outcome = d.outcome ∧ x.number = d.number)
      ∨ (∃ x : Dose, t.wac.dose = some x ∧ x.outcome = none ∧ x.number ≠ s.log.roundNumber
        ∧ (x.number - s.log.roundNumber).toNat ≤ (t.log.roundNumber - s.log.roundNumber).toNat)
end

