-- ==== Sys2Proof/Laws/State.lean ====
section
/-! SUPPORT. One lemma per field per update of the state, each true by rfl, so that no later proof unfolds a record
update; and what each named update is in terms of those of one block. -/

namespace Sys2Proof.Machine

variable (s : State)

/-! ### raise -/

@[simp] theorem raise_time (n : Notice) : (raise n s).time = s.time := rfl
@[simp] theorem raise_clock (n : Notice) : (raise n s).clock = s.clock := rfl
@[simp] theorem raise_strings (n : Notice) : (raise n s).strings = s.strings := rfl
@[simp] theorem raise_sweep (n : Notice) : (raise n s).sweep = s.sweep := rfl
@[simp] theorem raise_schedule (n : Notice) : (raise n s).schedule = s.schedule := rfl
@[simp] theorem raise_queue (n : Notice) : (raise n s).queue = s.queue := rfl
@[simp] theorem raise_eqc (n : Notice) : (raise n s).eqc = s.eqc := rfl
@[simp] theorem raise_wac (n : Notice) : (raise n s).wac = s.wac := rfl
@[simp] theorem raise_plant (n : Notice) : (raise n s).plant = s.plant := rfl
@[simp] theorem raise_loop (n : Notice) : (raise n s).loop = s.loop := rfl
@[simp] theorem raise_demand (n : Notice) : (raise n s).demand = s.demand := rfl
@[simp] theorem raise_log (n : Notice) : (raise n s).log = s.log := rfl
@[simp] theorem raise_settings (n : Notice) : (raise n s).settings = s.settings := rfl
@[simp] theorem raise_store (n : Notice) : (raise n s).store = s.store := rfl
@[simp] theorem raise_free (n : Notice) : (raise n s).free = s.free := rfl
@[simp] theorem raise_pending (n : Notice) : (raise n s).pending = s.pending := rfl

/-! ### modSweep -/

@[simp] theorem modSweep_time (f : Sweep → Sweep) : (modSweep f s).time = s.time := rfl
@[simp] theorem modSweep_clock (f : Sweep → Sweep) : (modSweep f s).clock = s.clock := rfl
@[simp] theorem modSweep_strings (f : Sweep → Sweep) : (modSweep f s).strings = s.strings := rfl
@[simp] theorem modSweep_sweep (f : Sweep → Sweep) : (modSweep f s).sweep = f s.sweep := rfl
@[simp] theorem modSweep_schedule (f : Sweep → Sweep) : (modSweep f s).schedule = s.schedule := rfl
@[simp] theorem modSweep_queue (f : Sweep → Sweep) : (modSweep f s).queue = s.queue := rfl
@[simp] theorem modSweep_eqc (f : Sweep → Sweep) : (modSweep f s).eqc = s.eqc := rfl
@[simp] theorem modSweep_wac (f : Sweep → Sweep) : (modSweep f s).wac = s.wac := rfl
@[simp] theorem modSweep_plant (f : Sweep → Sweep) : (modSweep f s).plant = s.plant := rfl
@[simp] theorem modSweep_loop (f : Sweep → Sweep) : (modSweep f s).loop = s.loop := rfl
@[simp] theorem modSweep_demand (f : Sweep → Sweep) : (modSweep f s).demand = s.demand := rfl
@[simp] theorem modSweep_ports (f : Sweep → Sweep) : (modSweep f s).ports = s.ports := rfl
@[simp] theorem modSweep_log (f : Sweep → Sweep) : (modSweep f s).log = s.log := rfl
@[simp] theorem modSweep_settings (f : Sweep → Sweep) : (modSweep f s).settings = s.settings := rfl
@[simp] theorem modSweep_store (f : Sweep → Sweep) : (modSweep f s).store = s.store := rfl
@[simp] theorem modSweep_free (f : Sweep → Sweep) : (modSweep f s).free = s.free := rfl
@[simp] theorem modSweep_pending (f : Sweep → Sweep) : (modSweep f s).pending = s.pending := rfl

/-! ### modEqc -/

@[simp] theorem modEqc_time (f : Eqc → Eqc) : (modEqc f s).time = s.time := rfl
@[simp] theorem modEqc_clock (f : Eqc → Eqc) : (modEqc f s).clock = s.clock := rfl
@[simp] theorem modEqc_strings (f : Eqc → Eqc) : (modEqc f s).strings = s.strings := rfl
@[simp] theorem modEqc_sweep (f : Eqc → Eqc) : (modEqc f s).sweep = s.sweep := rfl
@[simp] theorem modEqc_schedule (f : Eqc → Eqc) : (modEqc f s).schedule = s.schedule := rfl
@[simp] theorem modEqc_queue (f : Eqc → Eqc) : (modEqc f s).queue = s.queue := rfl
@[simp] theorem modEqc_eqc (f : Eqc → Eqc) : (modEqc f s).eqc = f s.eqc := rfl
@[simp] theorem modEqc_wac (f : Eqc → Eqc) : (modEqc f s).wac = s.wac := rfl
@[simp] theorem modEqc_plant (f : Eqc → Eqc) : (modEqc f s).plant = s.plant := rfl
@[simp] theorem modEqc_loop (f : Eqc → Eqc) : (modEqc f s).loop = s.loop := rfl
@[simp] theorem modEqc_demand (f : Eqc → Eqc) : (modEqc f s).demand = s.demand := rfl
@[simp] theorem modEqc_ports (f : Eqc → Eqc) : (modEqc f s).ports = s.ports := rfl
@[simp] theorem modEqc_log (f : Eqc → Eqc) : (modEqc f s).log = s.log := rfl
@[simp] theorem modEqc_settings (f : Eqc → Eqc) : (modEqc f s).settings = s.settings := rfl
@[simp] theorem modEqc_store (f : Eqc → Eqc) : (modEqc f s).store = s.store := rfl
@[simp] theorem modEqc_free (f : Eqc → Eqc) : (modEqc f s).free = s.free := rfl
@[simp] theorem modEqc_pending (f : Eqc → Eqc) : (modEqc f s).pending = s.pending := rfl

/-! ### modWac -/

@[simp] theorem modWac_time (f : Wac → Wac) : (modWac f s).time = s.time := rfl
@[simp] theorem modWac_clock (f : Wac → Wac) : (modWac f s).clock = s.clock := rfl
@[simp] theorem modWac_strings (f : Wac → Wac) : (modWac f s).strings = s.strings := rfl
@[simp] theorem modWac_sweep (f : Wac → Wac) : (modWac f s).sweep = s.sweep := rfl
@[simp] theorem modWac_schedule (f : Wac → Wac) : (modWac f s).schedule = s.schedule := rfl
@[simp] theorem modWac_queue (f : Wac → Wac) : (modWac f s).queue = s.queue := rfl
@[simp] theorem modWac_eqc (f : Wac → Wac) : (modWac f s).eqc = s.eqc := rfl
@[simp] theorem modWac_wac (f : Wac → Wac) : (modWac f s).wac = f s.wac := rfl
@[simp] theorem modWac_plant (f : Wac → Wac) : (modWac f s).plant = s.plant := rfl
@[simp] theorem modWac_loop (f : Wac → Wac) : (modWac f s).loop = s.loop := rfl
@[simp] theorem modWac_demand (f : Wac → Wac) : (modWac f s).demand = s.demand := rfl
@[simp] theorem modWac_ports (f : Wac → Wac) : (modWac f s).ports = s.ports := rfl
@[simp] theorem modWac_log (f : Wac → Wac) : (modWac f s).log = s.log := rfl
@[simp] theorem modWac_settings (f : Wac → Wac) : (modWac f s).settings = s.settings := rfl
@[simp] theorem modWac_store (f : Wac → Wac) : (modWac f s).store = s.store := rfl
@[simp] theorem modWac_free (f : Wac → Wac) : (modWac f s).free = s.free := rfl
@[simp] theorem modWac_pending (f : Wac → Wac) : (modWac f s).pending = s.pending := rfl

/-! ### modPlant -/

@[simp] theorem modPlant_time (f : PlantUnit → PlantUnit) : (modPlant f s).time = s.time := rfl
@[simp] theorem modPlant_clock (f : PlantUnit → PlantUnit) : (modPlant f s).clock = s.clock := rfl
@[simp] theorem modPlant_strings (f : PlantUnit → PlantUnit) : (modPlant f s).strings = s.strings := rfl
@[simp] theorem modPlant_sweep (f : PlantUnit → PlantUnit) : (modPlant f s).sweep = s.sweep := rfl
@[simp] theorem modPlant_schedule (f : PlantUnit → PlantUnit) : (modPlant f s).schedule = s.schedule := rfl
@[simp] theorem modPlant_queue (f : PlantUnit → PlantUnit) : (modPlant f s).queue = s.queue := rfl
@[simp] theorem modPlant_eqc (f : PlantUnit → PlantUnit) : (modPlant f s).eqc = s.eqc := rfl
@[simp] theorem modPlant_wac (f : PlantUnit → PlantUnit) : (modPlant f s).wac = s.wac := rfl
@[simp] theorem modPlant_plant (f : PlantUnit → PlantUnit) : (modPlant f s).plant = f s.plant := rfl
@[simp] theorem modPlant_loop (f : PlantUnit → PlantUnit) : (modPlant f s).loop = s.loop := rfl
@[simp] theorem modPlant_demand (f : PlantUnit → PlantUnit) : (modPlant f s).demand = s.demand := rfl
@[simp] theorem modPlant_ports (f : PlantUnit → PlantUnit) : (modPlant f s).ports = s.ports := rfl
@[simp] theorem modPlant_log (f : PlantUnit → PlantUnit) : (modPlant f s).log = s.log := rfl
@[simp] theorem modPlant_settings (f : PlantUnit → PlantUnit) : (modPlant f s).settings = s.settings := rfl
@[simp] theorem modPlant_store (f : PlantUnit → PlantUnit) : (modPlant f s).store = s.store := rfl
@[simp] theorem modPlant_free (f : PlantUnit → PlantUnit) : (modPlant f s).free = s.free := rfl
@[simp] theorem modPlant_pending (f : PlantUnit → PlantUnit) : (modPlant f s).pending = s.pending := rfl

/-! ### modLoop -/

@[simp] theorem modLoop_time (f : Loop → Loop) : (modLoop f s).time = s.time := rfl
@[simp] theorem modLoop_clock (f : Loop → Loop) : (modLoop f s).clock = s.clock := rfl
@[simp] theorem modLoop_strings (f : Loop → Loop) : (modLoop f s).strings = s.strings := rfl
@[simp] theorem modLoop_sweep (f : Loop → Loop) : (modLoop f s).sweep = s.sweep := rfl
@[simp] theorem modLoop_schedule (f : Loop → Loop) : (modLoop f s).schedule = s.schedule := rfl
@[simp] theorem modLoop_queue (f : Loop → Loop) : (modLoop f s).queue = s.queue := rfl
@[simp] theorem modLoop_eqc (f : Loop → Loop) : (modLoop f s).eqc = s.eqc := rfl
@[simp] theorem modLoop_wac (f : Loop → Loop) : (modLoop f s).wac = s.wac := rfl
@[simp] theorem modLoop_plant (f : Loop → Loop) : (modLoop f s).plant = s.plant := rfl
@[simp] theorem modLoop_loop (f : Loop → Loop) : (modLoop f s).loop = f s.loop := rfl
@[simp] theorem modLoop_demand (f : Loop → Loop) : (modLoop f s).demand = s.demand := rfl
@[simp] theorem modLoop_ports (f : Loop → Loop) : (modLoop f s).ports = s.ports := rfl
@[simp] theorem modLoop_log (f : Loop → Loop) : (modLoop f s).log = s.log := rfl
@[simp] theorem modLoop_settings (f : Loop → Loop) : (modLoop f s).settings = s.settings := rfl
@[simp] theorem modLoop_store (f : Loop → Loop) : (modLoop f s).store = s.store := rfl
@[simp] theorem modLoop_free (f : Loop → Loop) : (modLoop f s).free = s.free := rfl
@[simp] theorem modLoop_pending (f : Loop → Loop) : (modLoop f s).pending = s.pending := rfl

/-! ### modDemand -/

@[simp] theorem modDemand_time (f : DemandUnit → DemandUnit) : (modDemand f s).time = s.time := rfl
@[simp] theorem modDemand_clock (f : DemandUnit → DemandUnit) : (modDemand f s).clock = s.clock := rfl
@[simp] theorem modDemand_strings (f : DemandUnit → DemandUnit) : (modDemand f s).strings = s.strings := rfl
@[simp] theorem modDemand_sweep (f : DemandUnit → DemandUnit) : (modDemand f s).sweep = s.sweep := rfl
@[simp] theorem modDemand_schedule (f : DemandUnit → DemandUnit) : (modDemand f s).schedule = s.schedule := rfl
@[simp] theorem modDemand_queue (f : DemandUnit → DemandUnit) : (modDemand f s).queue = s.queue := rfl
@[simp] theorem modDemand_eqc (f : DemandUnit → DemandUnit) : (modDemand f s).eqc = s.eqc := rfl
@[simp] theorem modDemand_wac (f : DemandUnit → DemandUnit) : (modDemand f s).wac = s.wac := rfl
@[simp] theorem modDemand_plant (f : DemandUnit → DemandUnit) : (modDemand f s).plant = s.plant := rfl
@[simp] theorem modDemand_loop (f : DemandUnit → DemandUnit) : (modDemand f s).loop = s.loop := rfl
@[simp] theorem modDemand_demand (f : DemandUnit → DemandUnit) : (modDemand f s).demand = f s.demand := rfl
@[simp] theorem modDemand_ports (f : DemandUnit → DemandUnit) : (modDemand f s).ports = s.ports := rfl
@[simp] theorem modDemand_log (f : DemandUnit → DemandUnit) : (modDemand f s).log = s.log := rfl
@[simp] theorem modDemand_settings (f : DemandUnit → DemandUnit) : (modDemand f s).settings = s.settings := rfl
@[simp] theorem modDemand_store (f : DemandUnit → DemandUnit) : (modDemand f s).store = s.store := rfl
@[simp] theorem modDemand_free (f : DemandUnit → DemandUnit) : (modDemand f s).free = s.free := rfl
@[simp] theorem modDemand_pending (f : DemandUnit → DemandUnit) : (modDemand f s).pending = s.pending := rfl

/-! ### modString -/

@[simp] theorem modString_time (i : StringNo) (f : StringRecord → StringRecord) : (modString i f s).time = s.time := rfl
@[simp] theorem modString_clock (i : StringNo) (f : StringRecord → StringRecord) : (modString i f s).clock = s.clock := rfl
@[simp] theorem modString_strings (i : StringNo) (f : StringRecord → StringRecord) : (modString i f s).strings = s.strings.set i (f s.strings[i]) := rfl
@[simp] theorem modString_sweep (i : StringNo) (f : StringRecord → StringRecord) : (modString i f s).sweep = s.sweep := rfl
@[simp] theorem modString_schedule (i : StringNo) (f : StringRecord → StringRecord) : (modString i f s).schedule = s.schedule := rfl
@[simp] theorem modString_queue (i : StringNo) (f : StringRecord → StringRecord) : (modString i f s).queue = s.queue := rfl
@[simp] theorem modString_eqc (i : StringNo) (f : StringRecord → StringRecord) : (modString i f s).eqc = s.eqc := rfl
@[simp] theorem modString_wac (i : StringNo) (f : StringRecord → StringRecord) : (modString i f s).wac = s.wac := rfl
@[simp] theorem modString_plant (i : StringNo) (f : StringRecord → StringRecord) : (modString i f s).plant = s.plant := rfl
@[simp] theorem modString_loop (i : StringNo) (f : StringRecord → StringRecord) : (modString i f s).loop = s.loop := rfl
@[simp] theorem modString_demand (i : StringNo) (f : StringRecord → StringRecord) : (modString i f s).demand = s.demand := rfl
@[simp] theorem modString_ports (i : StringNo) (f : StringRecord → StringRecord) : (modString i f s).ports = s.ports := rfl
@[simp] theorem modString_log (i : StringNo) (f : StringRecord → StringRecord) : (modString i f s).log = s.log := rfl
@[simp] theorem modString_settings (i : StringNo) (f : StringRecord → StringRecord) : (modString i f s).settings = s.settings := rfl
@[simp] theorem modString_store (i : StringNo) (f : StringRecord → StringRecord) : (modString i f s).store = s.store := rfl
@[simp] theorem modString_free (i : StringNo) (f : StringRecord → StringRecord) : (modString i f s).free = s.free := rfl
@[simp] theorem modString_pending (i : StringNo) (f : StringRecord → StringRecord) : (modString i f s).pending = s.pending := rfl

/-! ### modPort -/

@[simp] theorem modPort_time (p : Port) (f : PortUnit → PortUnit) : (modPort p f s).time = s.time := rfl
@[simp] theorem modPort_clock (p : Port) (f : PortUnit → PortUnit) : (modPort p f s).clock = s.clock := rfl
@[simp] theorem modPort_strings (p : Port) (f : PortUnit → PortUnit) : (modPort p f s).strings = s.strings := rfl
@[simp] theorem modPort_sweep (p : Port) (f : PortUnit → PortUnit) : (modPort p f s).sweep = s.sweep := rfl
@[simp] theorem modPort_schedule (p : Port) (f : PortUnit → PortUnit) : (modPort p f s).schedule = s.schedule := rfl
@[simp] theorem modPort_queue (p : Port) (f : PortUnit → PortUnit) : (modPort p f s).queue = s.queue := rfl
@[simp] theorem modPort_eqc (p : Port) (f : PortUnit → PortUnit) : (modPort p f s).eqc = s.eqc := rfl
@[simp] theorem modPort_wac (p : Port) (f : PortUnit → PortUnit) : (modPort p f s).wac = s.wac := rfl
@[simp] theorem modPort_plant (p : Port) (f : PortUnit → PortUnit) : (modPort p f s).plant = s.plant := rfl
@[simp] theorem modPort_loop (p : Port) (f : PortUnit → PortUnit) : (modPort p f s).loop = s.loop := rfl
@[simp] theorem modPort_demand (p : Port) (f : PortUnit → PortUnit) : (modPort p f s).demand = s.demand := rfl
@[simp] theorem modPort_ports (p : Port) (f : PortUnit → PortUnit) : (modPort p f s).ports = s.ports.put p (f (s.ports.get p)) := rfl
@[simp] theorem modPort_log (p : Port) (f : PortUnit → PortUnit) : (modPort p f s).log = s.log := rfl
@[simp] theorem modPort_settings (p : Port) (f : PortUnit → PortUnit) : (modPort p f s).settings = s.settings := rfl
@[simp] theorem modPort_store (p : Port) (f : PortUnit → PortUnit) : (modPort p f s).store = s.store := rfl
@[simp] theorem modPort_free (p : Port) (f : PortUnit → PortUnit) : (modPort p f s).free = s.free := rfl
@[simp] theorem modPort_pending (p : Port) (f : PortUnit → PortUnit) : (modPort p f s).pending = s.pending := rfl

/-! ### addEntry -/

@[simp] theorem addEntry_time (e : QueueEntry) : (addEntry e s).time = s.time := rfl
@[simp] theorem addEntry_clock (e : QueueEntry) : (addEntry e s).clock = s.clock := rfl
@[simp] theorem addEntry_strings (e : QueueEntry) : (addEntry e s).strings = s.strings := rfl
@[simp] theorem addEntry_sweep (e : QueueEntry) : (addEntry e s).sweep = s.sweep := rfl
@[simp] theorem addEntry_schedule (e : QueueEntry) : (addEntry e s).schedule = s.schedule := rfl
@[simp] theorem addEntry_queue (e : QueueEntry) : (addEntry e s).queue = s.queue ++ [e] := rfl
@[simp] theorem addEntry_eqc (e : QueueEntry) : (addEntry e s).eqc = s.eqc := rfl
@[simp] theorem addEntry_wac (e : QueueEntry) : (addEntry e s).wac = s.wac := rfl
@[simp] theorem addEntry_plant (e : QueueEntry) : (addEntry e s).plant = s.plant := rfl
@[simp] theorem addEntry_loop (e : QueueEntry) : (addEntry e s).loop = s.loop := rfl
@[simp] theorem addEntry_demand (e : QueueEntry) : (addEntry e s).demand = s.demand := rfl
@[simp] theorem addEntry_ports (e : QueueEntry) : (addEntry e s).ports = s.ports := rfl
@[simp] theorem addEntry_log (e : QueueEntry) : (addEntry e s).log = s.log := rfl
@[simp] theorem addEntry_settings (e : QueueEntry) : (addEntry e s).settings = s.settings := rfl
@[simp] theorem addEntry_store (e : QueueEntry) : (addEntry e s).store = s.store := rfl
@[simp] theorem addEntry_free (e : QueueEntry) : (addEntry e s).free = s.free := rfl
@[simp] theorem addEntry_pending (e : QueueEntry) : (addEntry e s).pending = s.pending := rfl

/-! ### dropEntry -/

@[simp] theorem dropEntry_time (k : Kind) (i : StringNo) : (dropEntry k i s).time = s.time := rfl
@[simp] theorem dropEntry_clock (k : Kind) (i : StringNo) : (dropEntry k i s).clock = s.clock := rfl
@[simp] theorem dropEntry_strings (k : Kind) (i : StringNo) : (dropEntry k i s).strings = s.strings := rfl
@[simp] theorem dropEntry_sweep (k : Kind) (i : StringNo) : (dropEntry k i s).sweep = s.sweep := rfl
@[simp] theorem dropEntry_schedule (k : Kind) (i : StringNo) : (dropEntry k i s).schedule = s.schedule := rfl
@[simp] theorem dropEntry_queue (k : Kind) (i : StringNo) : (dropEntry k i s).queue = s.queue.filter (fun e => !e.same k i) := rfl
@[simp] theorem dropEntry_eqc (k : Kind) (i : StringNo) : (dropEntry k i s).eqc = s.eqc := rfl
@[simp] theorem dropEntry_wac (k : Kind) (i : StringNo) : (dropEntry k i s).wac = s.wac := rfl
@[simp] theorem dropEntry_plant (k : Kind) (i : StringNo) : (dropEntry k i s).plant = s.plant := rfl
@[simp] theorem dropEntry_loop (k : Kind) (i : StringNo) : (dropEntry k i s).loop = s.loop := rfl
@[simp] theorem dropEntry_demand (k : Kind) (i : StringNo) : (dropEntry k i s).demand = s.demand := rfl
@[simp] theorem dropEntry_ports (k : Kind) (i : StringNo) : (dropEntry k i s).ports = s.ports := rfl
@[simp] theorem dropEntry_log (k : Kind) (i : StringNo) : (dropEntry k i s).log = s.log := rfl
@[simp] theorem dropEntry_settings (k : Kind) (i : StringNo) : (dropEntry k i s).settings = s.settings := rfl
@[simp] theorem dropEntry_store (k : Kind) (i : StringNo) : (dropEntry k i s).store = s.store := rfl
@[simp] theorem dropEntry_free (k : Kind) (i : StringNo) : (dropEntry k i s).free = s.free := rfl
@[simp] theorem dropEntry_pending (k : Kind) (i : StringNo) : (dropEntry k i s).pending = s.pending := rfl

/-! ### placeRecord -/

@[simp] theorem placeRecord_time (r : LogRecord) : (placeRecord r s).time = s.time := rfl
@[simp] theorem placeRecord_clock (r : LogRecord) : (placeRecord r s).clock = s.clock := rfl
@[simp] theorem placeRecord_strings (r : LogRecord) : (placeRecord r s).strings = s.strings := rfl
@[simp] theorem placeRecord_sweep (r : LogRecord) : (placeRecord r s).sweep = s.sweep := rfl
@[simp] theorem placeRecord_schedule (r : LogRecord) : (placeRecord r s).schedule = s.schedule := rfl
@[simp] theorem placeRecord_queue (r : LogRecord) : (placeRecord r s).queue = s.queue := rfl
@[simp] theorem placeRecord_eqc (r : LogRecord) : (placeRecord r s).eqc = s.eqc := rfl
@[simp] theorem placeRecord_wac (r : LogRecord) : (placeRecord r s).wac = s.wac := rfl
@[simp] theorem placeRecord_plant (r : LogRecord) : (placeRecord r s).plant = s.plant := rfl
@[simp] theorem placeRecord_loop (r : LogRecord) : (placeRecord r s).loop = s.loop := rfl
@[simp] theorem placeRecord_demand (r : LogRecord) : (placeRecord r s).demand = s.demand := rfl
@[simp] theorem placeRecord_ports (r : LogRecord) : (placeRecord r s).ports = s.ports := rfl
@[simp] theorem placeRecord_settings (r : LogRecord) : (placeRecord r s).settings = s.settings := rfl
@[simp] theorem placeRecord_store (r : LogRecord) : (placeRecord r s).store = s.store := rfl
@[simp] theorem placeRecord_free (r : LogRecord) : (placeRecord r s).free = s.free := rfl
@[simp] theorem placeRecord_pending (r : LogRecord) : (placeRecord r s).pending = s.pending := rfl

/-! ### setSlot -/

@[simp] theorem setSlot_time (p : SlotPort) (x : Slot) : (setSlot p x s).time = s.time := by
  cases p <;> rfl
@[simp] theorem setSlot_clock (p : SlotPort) (x : Slot) : (setSlot p x s).clock = s.clock := by
  cases p <;> rfl
@[simp] theorem setSlot_strings (p : SlotPort) (x : Slot) : (setSlot p x s).strings = s.strings := by
  cases p <;> rfl
@[simp] theorem setSlot_sweep (p : SlotPort) (x : Slot) : (setSlot p x s).sweep = s.sweep := by
  cases p <;> rfl
@[simp] theorem setSlot_schedule (p : SlotPort) (x : Slot) : (setSlot p x s).schedule = s.schedule := by
  cases p <;> rfl
@[simp] theorem setSlot_queue (p : SlotPort) (x : Slot) : (setSlot p x s).queue = s.queue := by
  cases p <;> rfl
@[simp] theorem setSlot_eqc (p : SlotPort) (x : Slot) : (setSlot p x s).eqc = s.eqc := by
  cases p <;> rfl
@[simp] theorem setSlot_wac (p : SlotPort) (x : Slot) : (setSlot p x s).wac = s.wac := by
  cases p <;> rfl
@[simp] theorem setSlot_plant (p : SlotPort) (x : Slot) : (setSlot p x s).plant = s.plant := by
  cases p <;> rfl
@[simp] theorem setSlot_demand (p : SlotPort) (x : Slot) : (setSlot p x s).demand = s.demand := by
  cases p <;> rfl
@[simp] theorem setSlot_ports (p : SlotPort) (x : Slot) : (setSlot p x s).ports = s.ports := by
  cases p <;> rfl
@[simp] theorem setSlot_log (p : SlotPort) (x : Slot) : (setSlot p x s).log = s.log := by
  cases p <;> rfl
@[simp] theorem setSlot_settings (p : SlotPort) (x : Slot) : (setSlot p x s).settings = s.settings := by
  cases p <;> rfl
@[simp] theorem setSlot_store (p : SlotPort) (x : Slot) : (setSlot p x s).store = s.store := by
  cases p <;> rfl
@[simp] theorem setSlot_free (p : SlotPort) (x : Slot) : (setSlot p x s).free = s.free := by
  cases p <;> rfl
@[simp] theorem setSlot_pending (p : SlotPort) (x : Slot) : (setSlot p x s).pending = s.pending := by
  cases p <;> rfl

/-! ### withPending -/

@[simp] theorem withPending_time (q : List Instr) : (s.withPending q).time = s.time := rfl
@[simp] theorem withPending_clock (q : List Instr) : (s.withPending q).clock = s.clock := rfl
@[simp] theorem withPending_strings (q : List Instr) : (s.withPending q).strings = s.strings := rfl
@[simp] theorem withPending_sweep (q : List Instr) : (s.withPending q).sweep = s.sweep := rfl
@[simp] theorem withPending_schedule (q : List Instr) : (s.withPending q).schedule = s.schedule := rfl
@[simp] theorem withPending_queue (q : List Instr) : (s.withPending q).queue = s.queue := rfl
@[simp] theorem withPending_eqc (q : List Instr) : (s.withPending q).eqc = s.eqc := rfl
@[simp] theorem withPending_wac (q : List Instr) : (s.withPending q).wac = s.wac := rfl
@[simp] theorem withPending_plant (q : List Instr) : (s.withPending q).plant = s.plant := rfl
@[simp] theorem withPending_loop (q : List Instr) : (s.withPending q).loop = s.loop := rfl
@[simp] theorem withPending_demand (q : List Instr) : (s.withPending q).demand = s.demand := rfl
@[simp] theorem withPending_ports (q : List Instr) : (s.withPending q).ports = s.ports := rfl
@[simp] theorem withPending_log (q : List Instr) : (s.withPending q).log = s.log := rfl
@[simp] theorem withPending_settings (q : List Instr) : (s.withPending q).settings = s.settings := rfl
@[simp] theorem withPending_store (q : List Instr) : (s.withPending q).store = s.store := rfl
@[simp] theorem withPending_free (q : List Instr) : (s.withPending q).free = s.free := rfl
@[simp] theorem withPending_pending (q : List Instr) : (s.withPending q).pending = q := rfl

/-! ### The named updates of one block -/

theorem setStringState_eq (i : StringNo) (st : StringState) :
    setStringState i st s = modString i (fun r => { r with state := st }) s := rfl

theorem claimWater_eq (j : WaterJob) :
    claimWater j s = modLoop (fun l => { l with claimWater := some j }) s := rfl

theorem claimEqualise_eq (j : EqJob) :
    claimEqualise j s = modLoop (fun l => { l with claimEqualise := some j }) s := rfl

theorem withdrawWater_eq :
    withdrawWater s = modLoop (fun l => { l with claimWater := none }) s := rfl

theorem withdrawEqualise_eq :
    withdrawEqualise s = modLoop (fun l => { l with claimEqualise := none }) s := rfl

theorem setInFlight_eq (x : Option InFlight) :
    setInFlight x s = modLoop (fun l => { l with inFlight := x }) s := rfl

theorem setRelease_eq (r : Release) :
    setRelease r s = modLoop (fun l => { l with release := r }) s := rfl

theorem setRound_eq (r : Round) :
    setRound r s = modEqc (fun e => { e with round := some r }) s := rfl

theorem modRound_eq (f : Round → Round) :
    modRound f s = modEqc (fun e => { e with round := e.round.map f }) s := rfl

theorem setEqcState_eq (st : EqcState) :
    setEqcState st s = modEqc (fun e => { e with state := st }) s := rfl

theorem setAttachment_eq (l : LinkRecord) :
    setAttachment l s = modEqc (fun e => { e with attachment := l }) s := rfl

theorem stopTimer_eq :
    stopTimer s = modEqc (fun e => { e with
      round := e.round.map fun r => { r with timer := r.timer.stop } }) s := rfl

theorem modDose_eq (f : Dose → Dose) :
    modDose f s = modWac (fun w => { w with dose := w.dose.map f }) s := rfl

theorem setDose_eq (d : Dose) :
    setDose d s = modWac (fun w => { w with dose := some d }) s := rfl

theorem setWacState_eq (st : WacState) :
    setWacState st s = modWac (fun w => { w with state := st }) s := rfl

theorem setValve_eq (l : LinkRecord) :
    setValve l s = modWac (fun w => { w with valve := l }) s := rfl

theorem setPump_eq (x : PumpRecord) :
    setPump x s = modWac (fun w => { w with pump := x }) s := rfl

theorem setWait_eq (i : StringNo) (w : Option Nat) :
    setWait i w s = modDemand (fun d => { d with list := d.list.set i w }) s := rfl

theorem setRx_eq (p : Port) (x : RxState) :
    setRx p x s = modPort p (fun u => { u with rx := x }) s := rfl

/-! ### Ports -/

@[simp] theorem Ports.get_put (ps : Ports) (p : Port) (u : PortUnit) : (ps.put p u).get p = u := by
  cases p <;> rfl

theorem Ports.get_put_ne (ps : Ports) (p q : Port) (u : PortUnit) (h : q ≠ p) :
    (ps.put p u).get q = ps.get q := by
  cases p <;> cases q <;> first | rfl | exact absurd rfl h

@[simp] theorem raise_get (n : Notice) (p : Port) :
    (raise n s).ports.get p = (s.ports.get p).addPending n.mask := by
  cases p <;> rfl

@[simp] theorem rxOf_setRx (p : Port) (x : RxState) : rxOf (setRx p x s) p = x := by
  cases p <;> rfl

@[simp] theorem rxOf_raise (n : Notice) (p : Port) : rxOf (raise n s) p = rxOf s p := by
  cases p <;> rfl

/-! ### String records -/

theorem recordOf_modString (i j : StringNo) (f : StringRecord → StringRecord) :
    recordOf (modString i f s) j = if i = j then f (recordOf s i) else recordOf s j := by
  simp [recordOf, Vector.getElem_set, Fin.ext_iff]

end Sys2Proof.Machine
end

