-- ==== Sys2Proof/Laws/Frames.lean ====
section
/-! SUPPORT. The frame of every shared operation: one lemma per operation, naming each part of the state that the
operation never writes. -/

namespace Sys2Proof.Machine

/-- A property that every step of a fold keeps holds of the fold. -/
theorem foldl_keeps {α : Type} {P : State → Prop} (f : State → α → State)
    (h : ∀ t a, P t → P (f t a)) (l : List α) (t : State) (ht : P t) : P (l.foldl f t) := by
  induction l generalizing t with
  | nil => exact ht
  | cons a l ih => exact ih _ (h t a ht)

variable (s : State)

/-! ### The log and the queue (Machine/Ops.lean) -/

@[simp] theorem noteOverrun_frame :
    (noteOverrun s).time = s.time ∧ (noteOverrun s).clock = s.clock ∧
    (noteOverrun s).strings = s.strings ∧ (noteOverrun s).sweep = s.sweep ∧
    (noteOverrun s).schedule = s.schedule ∧ (noteOverrun s).queue = s.queue ∧
    (noteOverrun s).eqc = s.eqc ∧ (noteOverrun s).wac = s.wac ∧ (noteOverrun s).plant = s.plant ∧
    (noteOverrun s).loop = s.loop ∧ (noteOverrun s).demand = s.demand ∧
    (noteOverrun s).settings = s.settings ∧ (noteOverrun s).store = s.store ∧
    (noteOverrun s).free = s.free ∧ (noteOverrun s).pending = s.pending := by
  unfold noteOverrun; dsimp only; repeat' split
  all_goals simp

@[simp] theorem noteFull_frame (p : Fin 64) :
    (noteFull p s).time = s.time ∧ (noteFull p s).clock = s.clock ∧
    (noteFull p s).strings = s.strings ∧ (noteFull p s).sweep = s.sweep ∧
    (noteFull p s).schedule = s.schedule ∧ (noteFull p s).queue = s.queue ∧
    (noteFull p s).eqc = s.eqc ∧ (noteFull p s).wac = s.wac ∧ (noteFull p s).plant = s.plant ∧
    (noteFull p s).loop = s.loop ∧ (noteFull p s).demand = s.demand ∧
    (noteFull p s).settings = s.settings ∧ (noteFull p s).store = s.store ∧
    (noteFull p s).free = s.free ∧ (noteFull p s).pending = s.pending := by
  unfold noteFull; split <;> simp

@[simp] theorem logWrite_frame (r : LogRecord) :
    (logWrite r s).time = s.time ∧ (logWrite r s).clock = s.clock ∧
    (logWrite r s).strings = s.strings ∧ (logWrite r s).sweep = s.sweep ∧
    (logWrite r s).schedule = s.schedule ∧ (logWrite r s).queue = s.queue ∧
    (logWrite r s).eqc = s.eqc ∧ (logWrite r s).wac = s.wac ∧ (logWrite r s).plant = s.plant ∧
    (logWrite r s).loop = s.loop ∧ (logWrite r s).demand = s.demand ∧
    (logWrite r s).settings = s.settings ∧ (logWrite r s).store = s.store ∧
    (logWrite r s).free = s.free ∧ (logWrite r s).pending = s.pending := by
  simp [logWrite]

@[simp] theorem cancelEntry_frame (c : Cause) (e : QueueEntry) :
    (cancelEntry c e s).time = s.time ∧ (cancelEntry c e s).clock = s.clock ∧
    (cancelEntry c e s).strings = s.strings ∧ (cancelEntry c e s).sweep = s.sweep ∧
    (cancelEntry c e s).schedule = s.schedule ∧ (cancelEntry c e s).eqc = s.eqc ∧
    (cancelEntry c e s).wac = s.wac ∧ (cancelEntry c e s).plant = s.plant ∧
    (cancelEntry c e s).loop = s.loop ∧ (cancelEntry c e s).demand = s.demand ∧
    (cancelEntry c e s).settings = s.settings ∧ (cancelEntry c e s).store = s.store ∧
    (cancelEntry c e s).free = s.free ∧ (cancelEntry c e s).pending = s.pending := by
  simp [cancelEntry]

@[simp] theorem removeBarred_frame (i : StringNo) :
    (removeBarred i s).time = s.time ∧ (removeBarred i s).clock = s.clock ∧
    (removeBarred i s).strings = s.strings ∧ (removeBarred i s).sweep = s.sweep ∧
    (removeBarred i s).schedule = s.schedule ∧ (removeBarred i s).eqc = s.eqc ∧
    (removeBarred i s).wac = s.wac ∧ (removeBarred i s).plant = s.plant ∧
    (removeBarred i s).loop = s.loop ∧ (removeBarred i s).demand = s.demand ∧
    (removeBarred i s).settings = s.settings ∧ (removeBarred i s).store = s.store ∧
    (removeBarred i s).free = s.free ∧ (removeBarred i s).pending = s.pending := by
  refine foldl_keeps (P := fun t =>
      t.time = s.time ∧ t.clock = s.clock ∧ t.strings = s.strings ∧ t.sweep = s.sweep ∧
      t.schedule = s.schedule ∧ t.eqc = s.eqc ∧ t.wac = s.wac ∧ t.plant = s.plant ∧ t.loop
      = s.loop ∧ t.demand = s.demand ∧ t.settings = s.settings ∧ t.store = s.store ∧
      t.free = s.free ∧ t.pending = s.pending)
    _ (fun t e h => ?_) _ s (by simp)
  simpa using h

@[simp] theorem displace_frame (a b : QueueEntry) :
    (displace a b s).time = s.time ∧ (displace a b s).clock = s.clock ∧
    (displace a b s).strings = s.strings ∧ (displace a b s).sweep = s.sweep ∧
    (displace a b s).schedule = s.schedule ∧ (displace a b s).eqc = s.eqc ∧
    (displace a b s).wac = s.wac ∧ (displace a b s).plant = s.plant ∧
    (displace a b s).loop = s.loop ∧ (displace a b s).demand = s.demand ∧
    (displace a b s).settings = s.settings ∧ (displace a b s).store = s.store ∧
    (displace a b s).free = s.free ∧ (displace a b s).pending = s.pending := by
  simp [displace]

@[simp] theorem judgePost_frame (e : QueueEntry) :
    (judgePost e s).1.time = s.time ∧ (judgePost e s).1.clock = s.clock ∧
    (judgePost e s).1.strings = s.strings ∧ (judgePost e s).1.sweep = s.sweep ∧
    (judgePost e s).1.schedule = s.schedule ∧ (judgePost e s).1.eqc = s.eqc ∧
    (judgePost e s).1.wac = s.wac ∧ (judgePost e s).1.plant = s.plant ∧
    (judgePost e s).1.loop = s.loop ∧ (judgePost e s).1.demand = s.demand ∧
    (judgePost e s).1.settings = s.settings ∧ (judgePost e s).1.store = s.store ∧
    (judgePost e s).1.free = s.free ∧ (judgePost e s).1.pending = s.pending := by
  unfold judgePost; repeat' split
  all_goals simp

@[simp] theorem post_frame (e : QueueEntry) :
    (post e s).1.time = s.time ∧ (post e s).1.clock = s.clock ∧ (post e s).1.strings = s.strings ∧
    (post e s).1.sweep = s.sweep ∧ (post e s).1.schedule = s.schedule ∧ (post e s).1.eqc = s.eqc ∧
    (post e s).1.wac = s.wac ∧ (post e s).1.plant = s.plant ∧ (post e s).1.loop = s.loop ∧
    (post e s).1.demand = s.demand ∧ (post e s).1.settings = s.settings ∧
    (post e s).1.store = s.store ∧ (post e s).1.free = s.free ∧ (post e s).1.pending = s.pending := by
  unfold post; split <;> simp

@[simp] theorem setStringState_frame (i : StringNo) (x : StringState) :
    (setStringState i x s).time = s.time ∧ (setStringState i x s).clock = s.clock ∧
    (setStringState i x s).sweep = s.sweep ∧ (setStringState i x s).schedule = s.schedule ∧
    (setStringState i x s).queue = s.queue ∧ (setStringState i x s).eqc = s.eqc ∧
    (setStringState i x s).wac = s.wac ∧ (setStringState i x s).plant = s.plant ∧
    (setStringState i x s).loop = s.loop ∧ (setStringState i x s).demand = s.demand ∧
    (setStringState i x s).ports = s.ports ∧ (setStringState i x s).log = s.log ∧
    (setStringState i x s).settings = s.settings ∧ (setStringState i x s).store = s.store ∧
    (setStringState i x s).free = s.free ∧ (setStringState i x s).pending = s.pending := by
  simp [setStringState]

@[simp] theorem takeEqualiseOutcome_frame (i : StringNo) (o : EqOutcome) :
    (takeEqualiseOutcome i o s).time = s.time ∧ (takeEqualiseOutcome i o s).clock = s.clock ∧
    (takeEqualiseOutcome i o s).sweep = s.sweep ∧
    (takeEqualiseOutcome i o s).schedule = s.schedule ∧
    (takeEqualiseOutcome i o s).queue = s.queue ∧ (takeEqualiseOutcome i o s).eqc = s.eqc ∧
    (takeEqualiseOutcome i o s).wac = s.wac ∧ (takeEqualiseOutcome i o s).plant = s.plant ∧
    (takeEqualiseOutcome i o s).loop = s.loop ∧ (takeEqualiseOutcome i o s).demand = s.demand ∧
    (takeEqualiseOutcome i o s).ports = s.ports ∧ (takeEqualiseOutcome i o s).log = s.log ∧
    (takeEqualiseOutcome i o s).settings = s.settings ∧
    (takeEqualiseOutcome i o s).store = s.store ∧ (takeEqualiseOutcome i o s).free = s.free ∧
    (takeEqualiseOutcome i o s).pending = s.pending := by
  simp [takeEqualiseOutcome]

@[simp] theorem takeWaterOutcome_frame (i : StringNo) (o : WaterOutcome) (n : Nat) :
    (takeWaterOutcome i o n s).time = s.time ∧ (takeWaterOutcome i o n s).clock = s.clock ∧
    (takeWaterOutcome i o n s).sweep = s.sweep ∧ (takeWaterOutcome i o n s).schedule = s.schedule ∧
    (takeWaterOutcome i o n s).queue = s.queue ∧ (takeWaterOutcome i o n s).eqc = s.eqc ∧
    (takeWaterOutcome i o n s).wac = s.wac ∧ (takeWaterOutcome i o n s).plant = s.plant ∧
    (takeWaterOutcome i o n s).loop = s.loop ∧ (takeWaterOutcome i o n s).demand = s.demand ∧
    (takeWaterOutcome i o n s).ports = s.ports ∧ (takeWaterOutcome i o n s).log = s.log ∧
    (takeWaterOutcome i o n s).settings = s.settings ∧ (takeWaterOutcome i o n s).store = s.store ∧
    (takeWaterOutcome i o n s).free = s.free ∧ (takeWaterOutcome i o n s).pending = s.pending := by
  simp [takeWaterOutcome]

@[simp] theorem releaseString_frame (i : StringNo) (m : Option BarCause) (n : Option Nat) :
    (releaseString i m n s).time = s.time ∧ (releaseString i m n s).clock = s.clock ∧
    (releaseString i m n s).sweep = s.sweep ∧ (releaseString i m n s).schedule = s.schedule ∧
    (releaseString i m n s).eqc = s.eqc ∧ (releaseString i m n s).wac = s.wac ∧
    (releaseString i m n s).plant = s.plant ∧ (releaseString i m n s).loop = s.loop ∧
    (releaseString i m n s).demand = s.demand ∧ (releaseString i m n s).settings = s.settings ∧
    (releaseString i m n s).store = s.store ∧ (releaseString i m n s).free = s.free ∧
    (releaseString i m n s).pending = s.pending := by
  unfold releaseString; repeat' split
  all_goals simp

@[simp] theorem claimWater_frame (j : WaterJob) :
    (claimWater j s).time = s.time ∧ (claimWater j s).clock = s.clock ∧
    (claimWater j s).strings = s.strings ∧ (claimWater j s).sweep = s.sweep ∧
    (claimWater j s).schedule = s.schedule ∧ (claimWater j s).queue = s.queue ∧
    (claimWater j s).eqc = s.eqc ∧ (claimWater j s).wac = s.wac ∧ (claimWater j s).plant = s.plant ∧
    (claimWater j s).demand = s.demand ∧ (claimWater j s).ports = s.ports ∧
    (claimWater j s).log = s.log ∧ (claimWater j s).settings = s.settings ∧
    (claimWater j s).store = s.store ∧ (claimWater j s).free = s.free ∧
    (claimWater j s).pending = s.pending := by
  simp [claimWater]

@[simp] theorem claimEqualise_frame (j : EqJob) :
    (claimEqualise j s).time = s.time ∧ (claimEqualise j s).clock = s.clock ∧
    (claimEqualise j s).strings = s.strings ∧ (claimEqualise j s).sweep = s.sweep ∧
    (claimEqualise j s).schedule = s.schedule ∧ (claimEqualise j s).queue = s.queue ∧
    (claimEqualise j s).eqc = s.eqc ∧ (claimEqualise j s).wac = s.wac ∧
    (claimEqualise j s).plant = s.plant ∧ (claimEqualise j s).demand = s.demand ∧
    (claimEqualise j s).ports = s.ports ∧ (claimEqualise j s).log = s.log ∧
    (claimEqualise j s).settings = s.settings ∧ (claimEqualise j s).store = s.store ∧
    (claimEqualise j s).free = s.free ∧ (claimEqualise j s).pending = s.pending := by
  simp [claimEqualise]

@[simp] theorem withdrawWater_frame :
    (withdrawWater s).time = s.time ∧ (withdrawWater s).clock = s.clock ∧
    (withdrawWater s).strings = s.strings ∧ (withdrawWater s).sweep = s.sweep ∧
    (withdrawWater s).schedule = s.schedule ∧ (withdrawWater s).queue = s.queue ∧
    (withdrawWater s).eqc = s.eqc ∧ (withdrawWater s).wac = s.wac ∧
    (withdrawWater s).plant = s.plant ∧ (withdrawWater s).demand = s.demand ∧
    (withdrawWater s).ports = s.ports ∧ (withdrawWater s).log = s.log ∧
    (withdrawWater s).settings = s.settings ∧ (withdrawWater s).store = s.store ∧
    (withdrawWater s).free = s.free ∧ (withdrawWater s).pending = s.pending := by
  simp [withdrawWater]

@[simp] theorem withdrawEqualise_frame :
    (withdrawEqualise s).time = s.time ∧ (withdrawEqualise s).clock = s.clock ∧
    (withdrawEqualise s).strings = s.strings ∧ (withdrawEqualise s).sweep = s.sweep ∧
    (withdrawEqualise s).schedule = s.schedule ∧ (withdrawEqualise s).queue = s.queue ∧
    (withdrawEqualise s).eqc = s.eqc ∧ (withdrawEqualise s).wac = s.wac ∧
    (withdrawEqualise s).plant = s.plant ∧ (withdrawEqualise s).demand = s.demand ∧
    (withdrawEqualise s).ports = s.ports ∧ (withdrawEqualise s).log = s.log ∧
    (withdrawEqualise s).settings = s.settings ∧ (withdrawEqualise s).store = s.store ∧
    (withdrawEqualise s).free = s.free ∧ (withdrawEqualise s).pending = s.pending := by
  simp [withdrawEqualise]

@[simp] theorem drawNumber_frame :
    (drawNumber s).1.time = s.time ∧ (drawNumber s).1.clock = s.clock ∧
    (drawNumber s).1.strings = s.strings ∧ (drawNumber s).1.sweep = s.sweep ∧
    (drawNumber s).1.schedule = s.schedule ∧ (drawNumber s).1.queue = s.queue ∧
    (drawNumber s).1.eqc = s.eqc ∧ (drawNumber s).1.wac = s.wac ∧ (drawNumber s).1.plant = s.plant ∧
    (drawNumber s).1.loop = s.loop ∧ (drawNumber s).1.demand = s.demand ∧
    (drawNumber s).1.ports = s.ports ∧ (drawNumber s).1.settings = s.settings ∧
    (drawNumber s).1.store = s.store ∧ (drawNumber s).1.free = s.free ∧
    (drawNumber s).1.pending = s.pending := by
  simp [drawNumber]

/-! ### The Equalise Channel (Machine/Equalise.lean) -/

@[simp] theorem setRound_frame (r : Round) :
    (setRound r s).time = s.time ∧ (setRound r s).clock = s.clock ∧
    (setRound r s).strings = s.strings ∧ (setRound r s).sweep = s.sweep ∧
    (setRound r s).schedule = s.schedule ∧ (setRound r s).queue = s.queue ∧
    (setRound r s).wac = s.wac ∧ (setRound r s).plant = s.plant ∧ (setRound r s).loop = s.loop ∧
    (setRound r s).demand = s.demand ∧ (setRound r s).ports = s.ports ∧ (setRound r s).log = s.log ∧
    (setRound r s).settings = s.settings ∧ (setRound r s).store = s.store ∧
    (setRound r s).free = s.free ∧ (setRound r s).pending = s.pending := by
  simp [setRound]

@[simp] theorem modRound_frame (f : Round → Round) :
    (modRound f s).time = s.time ∧ (modRound f s).clock = s.clock ∧
    (modRound f s).strings = s.strings ∧ (modRound f s).sweep = s.sweep ∧
    (modRound f s).schedule = s.schedule ∧ (modRound f s).queue = s.queue ∧
    (modRound f s).wac = s.wac ∧ (modRound f s).plant = s.plant ∧ (modRound f s).loop = s.loop ∧
    (modRound f s).demand = s.demand ∧ (modRound f s).ports = s.ports ∧ (modRound f s).log = s.log ∧
    (modRound f s).settings = s.settings ∧ (modRound f s).store = s.store ∧
    (modRound f s).free = s.free ∧ (modRound f s).pending = s.pending := by
  simp [modRound]

@[simp] theorem setEqcState_frame (x : EqcState) :
    (setEqcState x s).time = s.time ∧ (setEqcState x s).clock = s.clock ∧
    (setEqcState x s).strings = s.strings ∧ (setEqcState x s).sweep = s.sweep ∧
    (setEqcState x s).schedule = s.schedule ∧ (setEqcState x s).queue = s.queue ∧
    (setEqcState x s).wac = s.wac ∧ (setEqcState x s).plant = s.plant ∧
    (setEqcState x s).loop = s.loop ∧ (setEqcState x s).demand = s.demand ∧
    (setEqcState x s).ports = s.ports ∧ (setEqcState x s).log = s.log ∧
    (setEqcState x s).settings = s.settings ∧ (setEqcState x s).store = s.store ∧
    (setEqcState x s).free = s.free ∧ (setEqcState x s).pending = s.pending := by
  simp [setEqcState]

@[simp] theorem setAttachment_frame (x : LinkRecord) :
    (setAttachment x s).time = s.time ∧ (setAttachment x s).clock = s.clock ∧
    (setAttachment x s).strings = s.strings ∧ (setAttachment x s).sweep = s.sweep ∧
    (setAttachment x s).schedule = s.schedule ∧ (setAttachment x s).queue = s.queue ∧
    (setAttachment x s).wac = s.wac ∧ (setAttachment x s).plant = s.plant ∧
    (setAttachment x s).loop = s.loop ∧ (setAttachment x s).demand = s.demand ∧
    (setAttachment x s).ports = s.ports ∧ (setAttachment x s).log = s.log ∧
    (setAttachment x s).settings = s.settings ∧ (setAttachment x s).store = s.store ∧
    (setAttachment x s).free = s.free ∧ (setAttachment x s).pending = s.pending := by
  simp [setAttachment]

@[simp] theorem stopTimer_frame :
    (stopTimer s).time = s.time ∧ (stopTimer s).clock = s.clock ∧
    (stopTimer s).strings = s.strings ∧ (stopTimer s).sweep = s.sweep ∧
    (stopTimer s).schedule = s.schedule ∧ (stopTimer s).queue = s.queue ∧
    (stopTimer s).wac = s.wac ∧ (stopTimer s).plant = s.plant ∧ (stopTimer s).loop = s.loop ∧
    (stopTimer s).demand = s.demand ∧ (stopTimer s).ports = s.ports ∧ (stopTimer s).log = s.log ∧
    (stopTimer s).settings = s.settings ∧ (stopTimer s).store = s.store ∧
    (stopTimer s).free = s.free ∧ (stopTimer s).pending = s.pending := by
  simp [stopTimer]

@[simp] theorem enterEqcFault_frame :
    (enterEqcFault s).time = s.time ∧ (enterEqcFault s).clock = s.clock ∧
    (enterEqcFault s).strings = s.strings ∧ (enterEqcFault s).sweep = s.sweep ∧
    (enterEqcFault s).schedule = s.schedule ∧ (enterEqcFault s).queue = s.queue ∧
    (enterEqcFault s).wac = s.wac ∧ (enterEqcFault s).plant = s.plant ∧
    (enterEqcFault s).loop = s.loop ∧ (enterEqcFault s).demand = s.demand ∧
    (enterEqcFault s).log = s.log ∧ (enterEqcFault s).settings = s.settings ∧
    (enterEqcFault s).store = s.store ∧ (enterEqcFault s).free = s.free ∧
    (enterEqcFault s).pending = s.pending := by
  simp [enterEqcFault]

@[simp] theorem handDose_frame (r : Round) (o : EqOutcome) :
    (handDose r o s).1.time = s.time ∧ (handDose r o s).1.clock = s.clock ∧
    (handDose r o s).1.strings = s.strings ∧ (handDose r o s).1.sweep = s.sweep ∧
    (handDose r o s).1.schedule = s.schedule ∧ (handDose r o s).1.eqc = s.eqc ∧
    (handDose r o s).1.wac = s.wac ∧ (handDose r o s).1.plant = s.plant ∧
    (handDose r o s).1.loop = s.loop ∧ (handDose r o s).1.demand = s.demand ∧
    (handDose r o s).1.settings = s.settings ∧ (handDose r o s).1.store = s.store ∧
    (handDose r o s).1.free = s.free ∧ (handDose r o s).1.pending = s.pending := by
  unfold handDose; dsimp only; repeat' split
  all_goals simp

@[simp] theorem handOnRound_frame (r : Round) (o : EqOutcome) (a b : Bool) :
    (handOnRound r o a b s).time = s.time ∧ (handOnRound r o a b s).clock = s.clock ∧
    (handOnRound r o a b s).sweep = s.sweep ∧ (handOnRound r o a b s).schedule = s.schedule ∧
    (handOnRound r o a b s).wac = s.wac ∧ (handOnRound r o a b s).plant = s.plant ∧
    (handOnRound r o a b s).loop = s.loop ∧ (handOnRound r o a b s).demand = s.demand ∧
    (handOnRound r o a b s).settings = s.settings ∧ (handOnRound r o a b s).store = s.store ∧
    (handOnRound r o a b s).free = s.free ∧ (handOnRound r o a b s).pending = s.pending := by
  unfold handOnRound; repeat' split
  all_goals simp

@[simp] theorem endRound_frame (a b : Bool) :
    (endRound a b s).time = s.time ∧ (endRound a b s).clock = s.clock ∧
    (endRound a b s).sweep = s.sweep ∧ (endRound a b s).schedule = s.schedule ∧
    (endRound a b s).wac = s.wac ∧ (endRound a b s).plant = s.plant ∧
    (endRound a b s).loop = s.loop ∧ (endRound a b s).demand = s.demand ∧
    (endRound a b s).settings = s.settings ∧ (endRound a b s).store = s.store ∧
    (endRound a b s).free = s.free ∧ (endRound a b s).pending = s.pending := by
  unfold endRound; split <;> simp

@[simp] theorem enterDetach_frame :
    (enterDetach s).time = s.time ∧ (enterDetach s).clock = s.clock ∧
    (enterDetach s).strings = s.strings ∧ (enterDetach s).sweep = s.sweep ∧
    (enterDetach s).schedule = s.schedule ∧ (enterDetach s).queue = s.queue ∧
    (enterDetach s).wac = s.wac ∧ (enterDetach s).plant = s.plant ∧
    (enterDetach s).demand = s.demand ∧ (enterDetach s).ports = s.ports ∧
    (enterDetach s).log = s.log ∧ (enterDetach s).settings = s.settings ∧
    (enterDetach s).store = s.store ∧ (enterDetach s).free = s.free ∧
    (enterDetach s).pending = s.pending := by
  simp [enterDetach]

@[simp] theorem stopDriving_frame :
    (stopDriving s).time = s.time ∧ (stopDriving s).clock = s.clock ∧
    (stopDriving s).sweep = s.sweep ∧ (stopDriving s).schedule = s.schedule ∧
    (stopDriving s).wac = s.wac ∧ (stopDriving s).plant = s.plant ∧
    (stopDriving s).demand = s.demand ∧ (stopDriving s).settings = s.settings ∧
    (stopDriving s).store = s.store ∧ (stopDriving s).free = s.free ∧
    (stopDriving s).pending = s.pending := by
  unfold stopDriving; repeat' split
  all_goals simp

@[simp] theorem decideEqualise_frame (o : EqOutcome) :
    (decideEqualise o s).time = s.time ∧ (decideEqualise o s).clock = s.clock ∧
    (decideEqualise o s).sweep = s.sweep ∧ (decideEqualise o s).schedule = s.schedule ∧
    (decideEqualise o s).wac = s.wac ∧ (decideEqualise o s).plant = s.plant ∧
    (decideEqualise o s).demand = s.demand ∧ (decideEqualise o s).settings = s.settings ∧
    (decideEqualise o s).store = s.store ∧ (decideEqualise o s).free = s.free ∧
    (decideEqualise o s).pending = s.pending := by
  unfold decideEqualise; split <;> simp

@[simp] theorem boostDistrusted_frame (c : Cause) :
    (boostDistrusted c s).time = s.time ∧ (boostDistrusted c s).clock = s.clock ∧
    (boostDistrusted c s).sweep = s.sweep ∧ (boostDistrusted c s).schedule = s.schedule ∧
    (boostDistrusted c s).wac = s.wac ∧ (boostDistrusted c s).plant = s.plant ∧
    (boostDistrusted c s).demand = s.demand ∧ (boostDistrusted c s).settings = s.settings ∧
    (boostDistrusted c s).store = s.store ∧ (boostDistrusted c s).free = s.free ∧
    (boostDistrusted c s).pending = s.pending := by
  unfold boostDistrusted; split <;> simp

@[simp] theorem resumeRound_frame (r : Round) :
    (resumeRound r s).time = s.time ∧ (resumeRound r s).clock = s.clock ∧
    (resumeRound r s).strings = s.strings ∧ (resumeRound r s).sweep = s.sweep ∧
    (resumeRound r s).schedule = s.schedule ∧ (resumeRound r s).queue = s.queue ∧
    (resumeRound r s).wac = s.wac ∧ (resumeRound r s).plant = s.plant ∧
    (resumeRound r s).loop = s.loop ∧ (resumeRound r s).demand = s.demand ∧
    (resumeRound r s).ports = s.ports ∧ (resumeRound r s).log = s.log ∧
    (resumeRound r s).settings = s.settings ∧ (resumeRound r s).store = s.store ∧
    (resumeRound r s).free = s.free ∧ (resumeRound r s).pending = s.pending := by
  unfold resumeRound; dsimp only; repeat' split
  all_goals simp

@[simp] theorem resumeIfClear_frame :
    (resumeIfClear s).time = s.time ∧ (resumeIfClear s).clock = s.clock ∧
    (resumeIfClear s).strings = s.strings ∧ (resumeIfClear s).sweep = s.sweep ∧
    (resumeIfClear s).schedule = s.schedule ∧ (resumeIfClear s).queue = s.queue ∧
    (resumeIfClear s).wac = s.wac ∧ (resumeIfClear s).plant = s.plant ∧
    (resumeIfClear s).loop = s.loop ∧ (resumeIfClear s).demand = s.demand ∧
    (resumeIfClear s).ports = s.ports ∧ (resumeIfClear s).log = s.log ∧
    (resumeIfClear s).settings = s.settings ∧ (resumeIfClear s).store = s.store ∧
    (resumeIfClear s).free = s.free ∧ (resumeIfClear s).pending = s.pending := by
  unfold resumeIfClear; repeat' split
  all_goals simp

@[simp] theorem enterPaused_frame (x : Phase) :
    (enterPaused x s).time = s.time ∧ (enterPaused x s).clock = s.clock ∧
    (enterPaused x s).strings = s.strings ∧ (enterPaused x s).sweep = s.sweep ∧
    (enterPaused x s).schedule = s.schedule ∧ (enterPaused x s).queue = s.queue ∧
    (enterPaused x s).wac = s.wac ∧ (enterPaused x s).plant = s.plant ∧
    (enterPaused x s).loop = s.loop ∧ (enterPaused x s).demand = s.demand ∧
    (enterPaused x s).log = s.log ∧ (enterPaused x s).settings = s.settings ∧
    (enterPaused x s).store = s.store ∧ (enterPaused x s).free = s.free ∧
    (enterPaused x s).pending = s.pending := by
  simp [enterPaused]

@[simp] theorem placePauseStandby_frame :
    (placePauseStandby s).time = s.time ∧ (placePauseStandby s).clock = s.clock ∧
    (placePauseStandby s).strings = s.strings ∧ (placePauseStandby s).sweep = s.sweep ∧
    (placePauseStandby s).schedule = s.schedule ∧ (placePauseStandby s).queue = s.queue ∧
    (placePauseStandby s).wac = s.wac ∧ (placePauseStandby s).plant = s.plant ∧
    (placePauseStandby s).demand = s.demand ∧ (placePauseStandby s).ports = s.ports ∧
    (placePauseStandby s).log = s.log ∧ (placePauseStandby s).settings = s.settings ∧
    (placePauseStandby s).store = s.store ∧ (placePauseStandby s).free = s.free ∧
    (placePauseStandby s).pending = s.pending := by
  simp [placePauseStandby]

@[simp] theorem takePause_frame :
    (takePause s).time = s.time ∧ (takePause s).clock = s.clock ∧
    (takePause s).strings = s.strings ∧ (takePause s).sweep = s.sweep ∧
    (takePause s).schedule = s.schedule ∧ (takePause s).queue = s.queue ∧
    (takePause s).wac = s.wac ∧ (takePause s).plant = s.plant ∧ (takePause s).demand = s.demand ∧
    (takePause s).ports = s.ports ∧ (takePause s).log = s.log ∧
    (takePause s).settings = s.settings ∧ (takePause s).store = s.store ∧
    (takePause s).free = s.free ∧ (takePause s).pending = s.pending := by
  unfold takePause; dsimp only; repeat' split
  all_goals simp

@[simp] theorem addPause_frame (c : PauseCause) :
    (addPause c s).time = s.time ∧ (addPause c s).clock = s.clock ∧
    (addPause c s).strings = s.strings ∧ (addPause c s).sweep = s.sweep ∧
    (addPause c s).schedule = s.schedule ∧ (addPause c s).queue = s.queue ∧
    (addPause c s).wac = s.wac ∧ (addPause c s).plant = s.plant ∧ (addPause c s).demand = s.demand ∧
    (addPause c s).ports = s.ports ∧ (addPause c s).log = s.log ∧
    (addPause c s).settings = s.settings ∧ (addPause c s).store = s.store ∧
    (addPause c s).free = s.free ∧ (addPause c s).pending = s.pending := by
  unfold addPause; repeat' split
  all_goals simp

@[simp] theorem removePause_frame (c : PauseCause) :
    (removePause c s).time = s.time ∧ (removePause c s).clock = s.clock ∧
    (removePause c s).strings = s.strings ∧ (removePause c s).sweep = s.sweep ∧
    (removePause c s).schedule = s.schedule ∧ (removePause c s).queue = s.queue ∧
    (removePause c s).wac = s.wac ∧ (removePause c s).plant = s.plant ∧
    (removePause c s).loop = s.loop ∧ (removePause c s).demand = s.demand ∧
    (removePause c s).ports = s.ports ∧ (removePause c s).log = s.log ∧
    (removePause c s).settings = s.settings ∧ (removePause c s).store = s.store ∧
    (removePause c s).free = s.free ∧ (removePause c s).pending = s.pending := by
  unfold removePause; split <;> simp

@[simp] theorem beginRound_frame (e : QueueEntry) (n : Fin 4) :
    (beginRound e n s).time = s.time ∧ (beginRound e n s).clock = s.clock ∧
    (beginRound e n s).sweep = s.sweep ∧ (beginRound e n s).schedule = s.schedule ∧
    (beginRound e n s).wac = s.wac ∧ (beginRound e n s).plant = s.plant ∧
    (beginRound e n s).demand = s.demand ∧ (beginRound e n s).settings = s.settings ∧
    (beginRound e n s).store = s.store ∧ (beginRound e n s).free = s.free ∧
    (beginRound e n s).pending = s.pending := by
  unfold beginRound; dsimp only; repeat' split
  all_goals simp

@[simp] theorem nextPeriod_frame :
    (nextPeriod s).time = s.time ∧ (nextPeriod s).clock = s.clock ∧
    (nextPeriod s).strings = s.strings ∧ (nextPeriod s).sweep = s.sweep ∧
    (nextPeriod s).schedule = s.schedule ∧ (nextPeriod s).queue = s.queue ∧
    (nextPeriod s).wac = s.wac ∧ (nextPeriod s).plant = s.plant ∧ (nextPeriod s).demand = s.demand ∧
    (nextPeriod s).ports = s.ports ∧ (nextPeriod s).log = s.log ∧
    (nextPeriod s).settings = s.settings ∧ (nextPeriod s).store = s.store ∧
    (nextPeriod s).free = s.free ∧ (nextPeriod s).pending = s.pending := by
  unfold nextPeriod; repeat' split
  all_goals simp

@[simp] theorem periodExpires_frame (r : Round) :
    (periodExpires r s).time = s.time ∧ (periodExpires r s).clock = s.clock ∧
    (periodExpires r s).strings = s.strings ∧ (periodExpires r s).sweep = s.sweep ∧
    (periodExpires r s).schedule = s.schedule ∧ (periodExpires r s).queue = s.queue ∧
    (periodExpires r s).wac = s.wac ∧ (periodExpires r s).plant = s.plant ∧
    (periodExpires r s).demand = s.demand ∧ (periodExpires r s).ports = s.ports ∧
    (periodExpires r s).log = s.log ∧ (periodExpires r s).settings = s.settings ∧
    (periodExpires r s).store = s.store ∧ (periodExpires r s).free = s.free ∧
    (periodExpires r s).pending = s.pending := by
  unfold periodExpires; dsimp only; repeat' split
  all_goals simp

@[simp] theorem actOnVerdict_frame (v : Verdict) :
    (actOnVerdict v s).time = s.time ∧ (actOnVerdict v s).clock = s.clock ∧
    (actOnVerdict v s).sweep = s.sweep ∧ (actOnVerdict v s).schedule = s.schedule ∧
    (actOnVerdict v s).wac = s.wac ∧ (actOnVerdict v s).plant = s.plant ∧
    (actOnVerdict v s).demand = s.demand ∧ (actOnVerdict v s).settings = s.settings ∧
    (actOnVerdict v s).store = s.store ∧ (actOnVerdict v s).free = s.free ∧
    (actOnVerdict v s).pending = s.pending := by
  unfold actOnVerdict; split <;> simp

@[simp] theorem setPointAnswered_frame (x : Reading) :
    (setPointAnswered x s).time = s.time ∧ (setPointAnswered x s).clock = s.clock ∧
    (setPointAnswered x s).sweep = s.sweep ∧ (setPointAnswered x s).schedule = s.schedule ∧
    (setPointAnswered x s).wac = s.wac ∧ (setPointAnswered x s).plant = s.plant ∧
    (setPointAnswered x s).demand = s.demand ∧ (setPointAnswered x s).settings = s.settings ∧
    (setPointAnswered x s).store = s.store ∧ (setPointAnswered x s).free = s.free ∧
    (setPointAnswered x s).pending = s.pending := by
  unfold setPointAnswered; dsimp only; repeat' split
  all_goals simp

@[simp] theorem setPointFailed_frame :
    (setPointFailed s).time = s.time ∧ (setPointFailed s).clock = s.clock ∧
    (setPointFailed s).sweep = s.sweep ∧ (setPointFailed s).schedule = s.schedule ∧
    (setPointFailed s).wac = s.wac ∧ (setPointFailed s).plant = s.plant ∧
    (setPointFailed s).demand = s.demand ∧ (setPointFailed s).settings = s.settings ∧
    (setPointFailed s).store = s.store ∧ (setPointFailed s).free = s.free ∧
    (setPointFailed s).pending = s.pending := by
  unfold setPointFailed; dsimp only; repeat' split
  all_goals simp

@[simp] theorem attachEnded_frame (i : StringNo) (o : TxOutcome) :
    (attachEnded i o s).time = s.time ∧ (attachEnded i o s).clock = s.clock ∧
    (attachEnded i o s).sweep = s.sweep ∧ (attachEnded i o s).schedule = s.schedule ∧
    (attachEnded i o s).wac = s.wac ∧ (attachEnded i o s).plant = s.plant ∧
    (attachEnded i o s).demand = s.demand ∧ (attachEnded i o s).settings = s.settings ∧
    (attachEnded i o s).store = s.store ∧ (attachEnded i o s).free = s.free ∧
    (attachEnded i o s).pending = s.pending := by
  unfold attachEnded; repeat' split
  all_goals simp

@[simp] theorem connectStandbyEnded_frame (o : TxOutcome) :
    (connectStandbyEnded o s).time = s.time ∧ (connectStandbyEnded o s).clock = s.clock ∧
    (connectStandbyEnded o s).sweep = s.sweep ∧ (connectStandbyEnded o s).schedule = s.schedule ∧
    (connectStandbyEnded o s).wac = s.wac ∧ (connectStandbyEnded o s).plant = s.plant ∧
    (connectStandbyEnded o s).demand = s.demand ∧ (connectStandbyEnded o s).settings = s.settings ∧
    (connectStandbyEnded o s).store = s.store ∧ (connectStandbyEnded o s).free = s.free ∧
    (connectStandbyEnded o s).pending = s.pending := by
  unfold connectStandbyEnded; dsimp only; repeat' split
  all_goals simp

@[simp] theorem pauseStandbyEnded_frame (o : TxOutcome) :
    (pauseStandbyEnded o s).time = s.time ∧ (pauseStandbyEnded o s).clock = s.clock ∧
    (pauseStandbyEnded o s).sweep = s.sweep ∧ (pauseStandbyEnded o s).schedule = s.schedule ∧
    (pauseStandbyEnded o s).wac = s.wac ∧ (pauseStandbyEnded o s).plant = s.plant ∧
    (pauseStandbyEnded o s).demand = s.demand ∧ (pauseStandbyEnded o s).settings = s.settings ∧
    (pauseStandbyEnded o s).store = s.store ∧ (pauseStandbyEnded o s).free = s.free ∧
    (pauseStandbyEnded o s).pending = s.pending := by
  unfold pauseStandbyEnded; repeat' split
  all_goals simp

@[simp] theorem refreshEnded_frame (o : TxOutcome) :
    (refreshEnded o s).time = s.time ∧ (refreshEnded o s).clock = s.clock ∧
    (refreshEnded o s).sweep = s.sweep ∧ (refreshEnded o s).schedule = s.schedule ∧
    (refreshEnded o s).wac = s.wac ∧ (refreshEnded o s).plant = s.plant ∧
    (refreshEnded o s).demand = s.demand ∧ (refreshEnded o s).settings = s.settings ∧
    (refreshEnded o s).store = s.store ∧ (refreshEnded o s).free = s.free ∧
    (refreshEnded o s).pending = s.pending := by
  unfold refreshEnded; dsimp only; repeat' split
  all_goals simp

@[simp] theorem detachEnded_frame (o : TxOutcome) :
    (detachEnded o s).time = s.time ∧ (detachEnded o s).clock = s.clock ∧
    (detachEnded o s).sweep = s.sweep ∧ (detachEnded o s).schedule = s.schedule ∧
    (detachEnded o s).wac = s.wac ∧ (detachEnded o s).plant = s.plant ∧
    (detachEnded o s).demand = s.demand ∧ (detachEnded o s).settings = s.settings ∧
    (detachEnded o s).store = s.store ∧ (detachEnded o s).free = s.free ∧
    (detachEnded o s).pending = s.pending := by
  unfold detachEnded; repeat' split
  all_goals simp

@[simp] theorem faultDetachEnded_frame (o : TxOutcome) :
    (faultDetachEnded o s).time = s.time ∧ (faultDetachEnded o s).clock = s.clock ∧
    (faultDetachEnded o s).strings = s.strings ∧ (faultDetachEnded o s).sweep = s.sweep ∧
    (faultDetachEnded o s).schedule = s.schedule ∧ (faultDetachEnded o s).queue = s.queue ∧
    (faultDetachEnded o s).wac = s.wac ∧ (faultDetachEnded o s).plant = s.plant ∧
    (faultDetachEnded o s).loop = s.loop ∧ (faultDetachEnded o s).demand = s.demand ∧
    (faultDetachEnded o s).ports = s.ports ∧ (faultDetachEnded o s).log = s.log ∧
    (faultDetachEnded o s).settings = s.settings ∧ (faultDetachEnded o s).store = s.store ∧
    (faultDetachEnded o s).free = s.free ∧ (faultDetachEnded o s).pending = s.pending := by
  unfold faultDetachEnded; split <;> simp

/-! ### The Water Channel (Machine/Water.lean) -/

@[simp] theorem modDose_frame (f : Dose → Dose) :
    (modDose f s).time = s.time ∧ (modDose f s).clock = s.clock ∧
    (modDose f s).strings = s.strings ∧ (modDose f s).sweep = s.sweep ∧
    (modDose f s).schedule = s.schedule ∧ (modDose f s).queue = s.queue ∧
    (modDose f s).eqc = s.eqc ∧ (modDose f s).plant = s.plant ∧ (modDose f s).loop = s.loop ∧
    (modDose f s).demand = s.demand ∧ (modDose f s).ports = s.ports ∧ (modDose f s).log = s.log ∧
    (modDose f s).settings = s.settings ∧ (modDose f s).store = s.store ∧
    (modDose f s).free = s.free ∧ (modDose f s).pending = s.pending := by
  simp [modDose]

@[simp] theorem setDose_frame (d : Dose) :
    (setDose d s).time = s.time ∧ (setDose d s).clock = s.clock ∧
    (setDose d s).strings = s.strings ∧ (setDose d s).sweep = s.sweep ∧
    (setDose d s).schedule = s.schedule ∧ (setDose d s).queue = s.queue ∧
    (setDose d s).eqc = s.eqc ∧ (setDose d s).plant = s.plant ∧ (setDose d s).loop = s.loop ∧
    (setDose d s).demand = s.demand ∧ (setDose d s).ports = s.ports ∧ (setDose d s).log = s.log ∧
    (setDose d s).settings = s.settings ∧ (setDose d s).store = s.store ∧
    (setDose d s).free = s.free ∧ (setDose d s).pending = s.pending := by
  simp [setDose]

@[simp] theorem setWacState_frame (x : WacState) :
    (setWacState x s).time = s.time ∧ (setWacState x s).clock = s.clock ∧
    (setWacState x s).strings = s.strings ∧ (setWacState x s).sweep = s.sweep ∧
    (setWacState x s).schedule = s.schedule ∧ (setWacState x s).queue = s.queue ∧
    (setWacState x s).eqc = s.eqc ∧ (setWacState x s).plant = s.plant ∧
    (setWacState x s).loop = s.loop ∧ (setWacState x s).demand = s.demand ∧
    (setWacState x s).ports = s.ports ∧ (setWacState x s).log = s.log ∧
    (setWacState x s).settings = s.settings ∧ (setWacState x s).store = s.store ∧
    (setWacState x s).free = s.free ∧ (setWacState x s).pending = s.pending := by
  simp [setWacState]

@[simp] theorem setValve_frame (x : LinkRecord) :
    (setValve x s).time = s.time ∧ (setValve x s).clock = s.clock ∧
    (setValve x s).strings = s.strings ∧ (setValve x s).sweep = s.sweep ∧
    (setValve x s).schedule = s.schedule ∧ (setValve x s).queue = s.queue ∧
    (setValve x s).eqc = s.eqc ∧ (setValve x s).plant = s.plant ∧ (setValve x s).loop = s.loop ∧
    (setValve x s).demand = s.demand ∧ (setValve x s).ports = s.ports ∧ (setValve x s).log = s.log ∧
    (setValve x s).settings = s.settings ∧ (setValve x s).store = s.store ∧
    (setValve x s).free = s.free ∧ (setValve x s).pending = s.pending := by
  simp [setValve]

@[simp] theorem setPump_frame (x : PumpRecord) :
    (setPump x s).time = s.time ∧ (setPump x s).clock = s.clock ∧
    (setPump x s).strings = s.strings ∧ (setPump x s).sweep = s.sweep ∧
    (setPump x s).schedule = s.schedule ∧ (setPump x s).queue = s.queue ∧
    (setPump x s).eqc = s.eqc ∧ (setPump x s).plant = s.plant ∧ (setPump x s).loop = s.loop ∧
    (setPump x s).demand = s.demand ∧ (setPump x s).ports = s.ports ∧ (setPump x s).log = s.log ∧
    (setPump x s).settings = s.settings ∧ (setPump x s).store = s.store ∧
    (setPump x s).free = s.free ∧ (setPump x s).pending = s.pending := by
  simp [setPump]

@[simp] theorem enterWacIdle_frame :
    (enterWacIdle s).time = s.time ∧ (enterWacIdle s).clock = s.clock ∧
    (enterWacIdle s).strings = s.strings ∧ (enterWacIdle s).sweep = s.sweep ∧
    (enterWacIdle s).schedule = s.schedule ∧ (enterWacIdle s).queue = s.queue ∧
    (enterWacIdle s).eqc = s.eqc ∧ (enterWacIdle s).plant = s.plant ∧
    (enterWacIdle s).loop = s.loop ∧ (enterWacIdle s).demand = s.demand ∧
    (enterWacIdle s).ports = s.ports ∧ (enterWacIdle s).log = s.log ∧
    (enterWacIdle s).settings = s.settings ∧ (enterWacIdle s).store = s.store ∧
    (enterWacIdle s).free = s.free ∧ (enterWacIdle s).pending = s.pending := by
  simp [enterWacIdle]

@[simp] theorem enterWacFault_frame :
    (enterWacFault s).time = s.time ∧ (enterWacFault s).clock = s.clock ∧
    (enterWacFault s).strings = s.strings ∧ (enterWacFault s).sweep = s.sweep ∧
    (enterWacFault s).schedule = s.schedule ∧ (enterWacFault s).queue = s.queue ∧
    (enterWacFault s).eqc = s.eqc ∧ (enterWacFault s).plant = s.plant ∧
    (enterWacFault s).demand = s.demand ∧ (enterWacFault s).log = s.log ∧
    (enterWacFault s).settings = s.settings ∧ (enterWacFault s).store = s.store ∧
    (enterWacFault s).free = s.free ∧ (enterWacFault s).pending = s.pending := by
  unfold enterWacFault; dsimp only; repeat' split
  all_goals simp

@[simp] theorem setReservoirLow_frame :
    (setReservoirLow s).time = s.time ∧ (setReservoirLow s).clock = s.clock ∧
    (setReservoirLow s).strings = s.strings ∧ (setReservoirLow s).sweep = s.sweep ∧
    (setReservoirLow s).schedule = s.schedule ∧ (setReservoirLow s).queue = s.queue ∧
    (setReservoirLow s).eqc = s.eqc ∧ (setReservoirLow s).plant = s.plant ∧
    (setReservoirLow s).loop = s.loop ∧ (setReservoirLow s).demand = s.demand ∧
    (setReservoirLow s).ports = s.ports ∧ (setReservoirLow s).log = s.log ∧
    (setReservoirLow s).settings = s.settings ∧ (setReservoirLow s).store = s.store ∧
    (setReservoirLow s).free = s.free ∧ (setReservoirLow s).pending = s.pending := by
  simp [setReservoirLow]

@[simp] theorem judgeReservoir_frame (n : Nat) :
    (judgeReservoir n s).time = s.time ∧ (judgeReservoir n s).clock = s.clock ∧
    (judgeReservoir n s).strings = s.strings ∧ (judgeReservoir n s).sweep = s.sweep ∧
    (judgeReservoir n s).schedule = s.schedule ∧ (judgeReservoir n s).queue = s.queue ∧
    (judgeReservoir n s).eqc = s.eqc ∧ (judgeReservoir n s).plant = s.plant ∧
    (judgeReservoir n s).loop = s.loop ∧ (judgeReservoir n s).demand = s.demand ∧
    (judgeReservoir n s).ports = s.ports ∧ (judgeReservoir n s).log = s.log ∧
    (judgeReservoir n s).settings = s.settings ∧ (judgeReservoir n s).store = s.store ∧
    (judgeReservoir n s).free = s.free ∧ (judgeReservoir n s).pending = s.pending := by
  simp [judgeReservoir]

@[simp] theorem handOnDose_frame (d : Dose) (o : WaterOutcome) (x : Leave) (b : Bool) :
    (handOnDose d o x b s).time = s.time ∧ (handOnDose d o x b s).clock = s.clock ∧
    (handOnDose d o x b s).sweep = s.sweep ∧ (handOnDose d o x b s).schedule = s.schedule ∧
    (handOnDose d o x b s).eqc = s.eqc ∧ (handOnDose d o x b s).plant = s.plant ∧
    (handOnDose d o x b s).demand = s.demand ∧ (handOnDose d o x b s).settings = s.settings ∧
    (handOnDose d o x b s).store = s.store ∧ (handOnDose d o x b s).free = s.free ∧
    (handOnDose d o x b s).pending = s.pending := by
  unfold handOnDose; repeat' split
  all_goals simp

@[simp] theorem endDose_frame (x : Leave) (b : Bool) :
    (endDose x b s).time = s.time ∧ (endDose x b s).clock = s.clock ∧
    (endDose x b s).sweep = s.sweep ∧ (endDose x b s).schedule = s.schedule ∧
    (endDose x b s).eqc = s.eqc ∧ (endDose x b s).plant = s.plant ∧
    (endDose x b s).demand = s.demand ∧ (endDose x b s).settings = s.settings ∧
    (endDose x b s).store = s.store ∧ (endDose x b s).free = s.free ∧
    (endDose x b s).pending = s.pending := by
  unfold endDose; split <;> simp

@[simp] theorem closeStep_frame (d : Dose) :
    (closeStep d s).time = s.time ∧ (closeStep d s).clock = s.clock ∧
    (closeStep d s).sweep = s.sweep ∧ (closeStep d s).schedule = s.schedule ∧
    (closeStep d s).eqc = s.eqc ∧ (closeStep d s).plant = s.plant ∧
    (closeStep d s).demand = s.demand ∧ (closeStep d s).settings = s.settings ∧
    (closeStep d s).store = s.store ∧ (closeStep d s).free = s.free ∧
    (closeStep d s).pending = s.pending := by
  unfold closeStep; split <;> simp

@[simp] theorem endSequence_frame :
    (endSequence s).time = s.time ∧ (endSequence s).clock = s.clock ∧
    (endSequence s).sweep = s.sweep ∧ (endSequence s).schedule = s.schedule ∧
    (endSequence s).eqc = s.eqc ∧ (endSequence s).plant = s.plant ∧
    (endSequence s).demand = s.demand ∧ (endSequence s).settings = s.settings ∧
    (endSequence s).store = s.store ∧ (endSequence s).free = s.free ∧
    (endSequence s).pending = s.pending := by
  unfold endSequence; repeat' split
  all_goals simp

@[simp] theorem stopDosing_frame :
    (stopDosing s).time = s.time ∧ (stopDosing s).clock = s.clock ∧ (stopDosing s).sweep = s.sweep ∧
    (stopDosing s).schedule = s.schedule ∧ (stopDosing s).eqc = s.eqc ∧
    (stopDosing s).plant = s.plant ∧ (stopDosing s).demand = s.demand ∧
    (stopDosing s).settings = s.settings ∧ (stopDosing s).store = s.store ∧
    (stopDosing s).free = s.free ∧ (stopDosing s).pending = s.pending := by
  unfold stopDosing; split <;> simp

@[simp] theorem decideWater_frame (o : WaterOutcome) :
    (decideWater o s).time = s.time ∧ (decideWater o s).clock = s.clock ∧
    (decideWater o s).sweep = s.sweep ∧ (decideWater o s).schedule = s.schedule ∧
    (decideWater o s).eqc = s.eqc ∧ (decideWater o s).plant = s.plant ∧
    (decideWater o s).demand = s.demand ∧ (decideWater o s).settings = s.settings ∧
    (decideWater o s).store = s.store ∧ (decideWater o s).free = s.free ∧
    (decideWater o s).pending = s.pending := by
  unfold decideWater; split <;> simp

@[simp] theorem flowLeak_frame :
    (flowLeak s).time = s.time ∧ (flowLeak s).clock = s.clock ∧ (flowLeak s).sweep = s.sweep ∧
    (flowLeak s).schedule = s.schedule ∧ (flowLeak s).eqc = s.eqc ∧ (flowLeak s).plant = s.plant ∧
    (flowLeak s).demand = s.demand ∧ (flowLeak s).settings = s.settings ∧
    (flowLeak s).store = s.store ∧ (flowLeak s).free = s.free ∧ (flowLeak s).pending = s.pending := by
  unfold flowLeak; split <;> simp

@[simp] theorem beginDose_frame (e : QueueEntry) (n : Nat) :
    (beginDose e n s).time = s.time ∧ (beginDose e n s).clock = s.clock ∧
    (beginDose e n s).sweep = s.sweep ∧ (beginDose e n s).schedule = s.schedule ∧
    (beginDose e n s).eqc = s.eqc ∧ (beginDose e n s).plant = s.plant ∧
    (beginDose e n s).demand = s.demand ∧ (beginDose e n s).settings = s.settings ∧
    (beginDose e n s).store = s.store ∧ (beginDose e n s).free = s.free ∧
    (beginDose e n s).pending = s.pending := by
  unfold beginDose; dsimp only; repeat' split
  all_goals simp

@[simp] theorem openValveEnded_frame (i : StringNo) (o : TxOutcome) :
    (openValveEnded i o s).time = s.time ∧ (openValveEnded i o s).clock = s.clock ∧
    (openValveEnded i o s).sweep = s.sweep ∧ (openValveEnded i o s).schedule = s.schedule ∧
    (openValveEnded i o s).eqc = s.eqc ∧ (openValveEnded i o s).plant = s.plant ∧
    (openValveEnded i o s).demand = s.demand ∧ (openValveEnded i o s).settings = s.settings ∧
    (openValveEnded i o s).store = s.store ∧ (openValveEnded i o s).free = s.free ∧
    (openValveEnded i o s).pending = s.pending := by
  unfold openValveEnded; repeat' split
  all_goals simp

@[simp] theorem pumpOnEnded_frame (o : TxOutcome) :
    (pumpOnEnded o s).time = s.time ∧ (pumpOnEnded o s).clock = s.clock ∧
    (pumpOnEnded o s).sweep = s.sweep ∧ (pumpOnEnded o s).schedule = s.schedule ∧
    (pumpOnEnded o s).eqc = s.eqc ∧ (pumpOnEnded o s).plant = s.plant ∧
    (pumpOnEnded o s).demand = s.demand ∧ (pumpOnEnded o s).settings = s.settings ∧
    (pumpOnEnded o s).store = s.store ∧ (pumpOnEnded o s).free = s.free ∧
    (pumpOnEnded o s).pending = s.pending := by
  unfold pumpOnEnded; repeat' split
  all_goals simp

@[simp] theorem dosePollEnded_frame (o : TxOutcome) :
    (dosePollEnded o s).time = s.time ∧ (dosePollEnded o s).clock = s.clock ∧
    (dosePollEnded o s).sweep = s.sweep ∧ (dosePollEnded o s).schedule = s.schedule ∧
    (dosePollEnded o s).eqc = s.eqc ∧ (dosePollEnded o s).plant = s.plant ∧
    (dosePollEnded o s).demand = s.demand ∧ (dosePollEnded o s).settings = s.settings ∧
    (dosePollEnded o s).store = s.store ∧ (dosePollEnded o s).free = s.free ∧
    (dosePollEnded o s).pending = s.pending := by
  unfold dosePollEnded; dsimp only; repeat' split
  all_goals simp

@[simp] theorem pumpOffEnded_frame (o : TxOutcome) :
    (pumpOffEnded o s).time = s.time ∧ (pumpOffEnded o s).clock = s.clock ∧
    (pumpOffEnded o s).sweep = s.sweep ∧ (pumpOffEnded o s).schedule = s.schedule ∧
    (pumpOffEnded o s).eqc = s.eqc ∧ (pumpOffEnded o s).plant = s.plant ∧
    (pumpOffEnded o s).demand = s.demand ∧ (pumpOffEnded o s).settings = s.settings ∧
    (pumpOffEnded o s).store = s.store ∧ (pumpOffEnded o s).free = s.free ∧
    (pumpOffEnded o s).pending = s.pending := by
  unfold pumpOffEnded; repeat' split
  all_goals simp

@[simp] theorem closeValveEnded_frame (o : TxOutcome) :
    (closeValveEnded o s).time = s.time ∧ (closeValveEnded o s).clock = s.clock ∧
    (closeValveEnded o s).sweep = s.sweep ∧ (closeValveEnded o s).schedule = s.schedule ∧
    (closeValveEnded o s).eqc = s.eqc ∧ (closeValveEnded o s).plant = s.plant ∧
    (closeValveEnded o s).demand = s.demand ∧ (closeValveEnded o s).settings = s.settings ∧
    (closeValveEnded o s).store = s.store ∧ (closeValveEnded o s).free = s.free ∧
    (closeValveEnded o s).pending = s.pending := by
  unfold closeValveEnded; repeat' split
  all_goals simp

@[simp] theorem reservoirPollEnded_frame (o : TxOutcome) :
    (reservoirPollEnded o s).time = s.time ∧ (reservoirPollEnded o s).clock = s.clock ∧
    (reservoirPollEnded o s).strings = s.strings ∧ (reservoirPollEnded o s).sweep = s.sweep ∧
    (reservoirPollEnded o s).schedule = s.schedule ∧ (reservoirPollEnded o s).queue = s.queue ∧
    (reservoirPollEnded o s).eqc = s.eqc ∧ (reservoirPollEnded o s).plant = s.plant ∧
    (reservoirPollEnded o s).loop = s.loop ∧ (reservoirPollEnded o s).demand = s.demand ∧
    (reservoirPollEnded o s).ports = s.ports ∧ (reservoirPollEnded o s).log = s.log ∧
    (reservoirPollEnded o s).settings = s.settings ∧ (reservoirPollEnded o s).store = s.store ∧
    (reservoirPollEnded o s).free = s.free ∧ (reservoirPollEnded o s).pending = s.pending := by
  unfold reservoirPollEnded; split <;> simp

@[simp] theorem faultPumpOffEnded_frame (o : TxOutcome) :
    (faultPumpOffEnded o s).time = s.time ∧ (faultPumpOffEnded o s).clock = s.clock ∧
    (faultPumpOffEnded o s).strings = s.strings ∧ (faultPumpOffEnded o s).sweep = s.sweep ∧
    (faultPumpOffEnded o s).schedule = s.schedule ∧ (faultPumpOffEnded o s).queue = s.queue ∧
    (faultPumpOffEnded o s).eqc = s.eqc ∧ (faultPumpOffEnded o s).plant = s.plant ∧
    (faultPumpOffEnded o s).loop = s.loop ∧ (faultPumpOffEnded o s).demand = s.demand ∧
    (faultPumpOffEnded o s).ports = s.ports ∧ (faultPumpOffEnded o s).log = s.log ∧
    (faultPumpOffEnded o s).settings = s.settings ∧ (faultPumpOffEnded o s).store = s.store ∧
    (faultPumpOffEnded o s).free = s.free ∧ (faultPumpOffEnded o s).pending = s.pending := by
  unfold faultPumpOffEnded; repeat' split
  all_goals simp

@[simp] theorem beginCheck_frame (i : StringNo) :
    (beginCheck i s).time = s.time ∧ (beginCheck i s).clock = s.clock ∧
    (beginCheck i s).strings = s.strings ∧ (beginCheck i s).sweep = s.sweep ∧
    (beginCheck i s).schedule = s.schedule ∧ (beginCheck i s).eqc = s.eqc ∧
    (beginCheck i s).plant = s.plant ∧ (beginCheck i s).demand = s.demand ∧
    (beginCheck i s).ports = s.ports ∧ (beginCheck i s).log = s.log ∧
    (beginCheck i s).settings = s.settings ∧ (beginCheck i s).store = s.store ∧
    (beginCheck i s).free = s.free ∧ (beginCheck i s).pending = s.pending := by
  simp [beginCheck]

@[simp] theorem checkEnded_frame (o : TxOutcome) :
    (checkEnded o s).time = s.time ∧ (checkEnded o s).clock = s.clock ∧
    (checkEnded o s).sweep = s.sweep ∧ (checkEnded o s).schedule = s.schedule ∧
    (checkEnded o s).eqc = s.eqc ∧ (checkEnded o s).plant = s.plant ∧
    (checkEnded o s).demand = s.demand ∧ (checkEnded o s).settings = s.settings ∧
    (checkEnded o s).store = s.store ∧ (checkEnded o s).free = s.free ∧
    (checkEnded o s).pending = s.pending := by
  unfold checkEnded; dsimp only; repeat' split
  all_goals simp

/-! ### Bars, clears and dispatch (Machine/Bars.lean) -/

@[simp] theorem barEqualised_frame (i : StringNo) (b : Option BarCause) (c : BarCause) :
    (barEqualised i b c s).time = s.time ∧ (barEqualised i b c s).clock = s.clock ∧
    (barEqualised i b c s).sweep = s.sweep ∧ (barEqualised i b c s).schedule = s.schedule ∧
    (barEqualised i b c s).wac = s.wac ∧ (barEqualised i b c s).plant = s.plant ∧
    (barEqualised i b c s).demand = s.demand ∧ (barEqualised i b c s).settings = s.settings ∧
    (barEqualised i b c s).store = s.store ∧ (barEqualised i b c s).free = s.free ∧
    (barEqualised i b c s).pending = s.pending := by
  unfold barEqualised; split <;> simp

@[simp] theorem barWatered_frame (i : StringNo) (b : Option BarCause) (c : BarCause) :
    (barWatered i b c s).time = s.time ∧ (barWatered i b c s).clock = s.clock ∧
    (barWatered i b c s).sweep = s.sweep ∧ (barWatered i b c s).schedule = s.schedule ∧
    (barWatered i b c s).eqc = s.eqc ∧ (barWatered i b c s).plant = s.plant ∧
    (barWatered i b c s).demand = s.demand ∧ (barWatered i b c s).settings = s.settings ∧
    (barWatered i b c s).store = s.store ∧ (barWatered i b c s).free = s.free ∧
    (barWatered i b c s).pending = s.pending := by
  unfold barWatered; split <;> simp

@[simp] theorem bar_frame (i : StringNo) (c : BarCause) :
    (bar i c s).time = s.time ∧ (bar i c s).clock = s.clock ∧ (bar i c s).sweep = s.sweep ∧
    (bar i c s).schedule = s.schedule ∧ (bar i c s).plant = s.plant ∧
    (bar i c s).demand = s.demand ∧ (bar i c s).settings = s.settings ∧
    (bar i c s).store = s.store ∧ (bar i c s).free = s.free ∧ (bar i c s).pending = s.pending := by
  unfold bar; repeat' split
  all_goals simp

@[simp] theorem clearDetachEnded_frame (o : TxOutcome) :
    (clearDetachEnded o s).time = s.time ∧ (clearDetachEnded o s).clock = s.clock ∧
    (clearDetachEnded o s).sweep = s.sweep ∧ (clearDetachEnded o s).schedule = s.schedule ∧
    (clearDetachEnded o s).plant = s.plant ∧ (clearDetachEnded o s).demand = s.demand ∧
    (clearDetachEnded o s).settings = s.settings ∧ (clearDetachEnded o s).store = s.store ∧
    (clearDetachEnded o s).free = s.free ∧ (clearDetachEnded o s).pending = s.pending := by
  unfold clearDetachEnded; dsimp only; repeat' split
  all_goals simp

@[simp] theorem waterClearFails_frame :
    (waterClearFails s).time = s.time ∧ (waterClearFails s).clock = s.clock ∧
    (waterClearFails s).strings = s.strings ∧ (waterClearFails s).sweep = s.sweep ∧
    (waterClearFails s).schedule = s.schedule ∧ (waterClearFails s).queue = s.queue ∧
    (waterClearFails s).eqc = s.eqc ∧ (waterClearFails s).plant = s.plant ∧
    (waterClearFails s).loop = s.loop ∧ (waterClearFails s).demand = s.demand ∧
    (waterClearFails s).log = s.log ∧ (waterClearFails s).settings = s.settings ∧
    (waterClearFails s).store = s.store ∧ (waterClearFails s).free = s.free ∧
    (waterClearFails s).pending = s.pending := by
  simp [waterClearFails]

@[simp] theorem waterClearDone_frame :
    (waterClearDone s).time = s.time ∧ (waterClearDone s).clock = s.clock ∧
    (waterClearDone s).strings = s.strings ∧ (waterClearDone s).sweep = s.sweep ∧
    (waterClearDone s).schedule = s.schedule ∧ (waterClearDone s).queue = s.queue ∧
    (waterClearDone s).eqc = s.eqc ∧ (waterClearDone s).plant = s.plant ∧
    (waterClearDone s).loop = s.loop ∧ (waterClearDone s).demand = s.demand ∧
    (waterClearDone s).ports = s.ports ∧ (waterClearDone s).log = s.log ∧
    (waterClearDone s).settings = s.settings ∧ (waterClearDone s).store = s.store ∧
    (waterClearDone s).free = s.free ∧ (waterClearDone s).pending = s.pending := by
  simp [waterClearDone]

@[simp] theorem clearPumpOffEnded_frame (o : TxOutcome) :
    (clearPumpOffEnded o s).time = s.time ∧ (clearPumpOffEnded o s).clock = s.clock ∧
    (clearPumpOffEnded o s).strings = s.strings ∧ (clearPumpOffEnded o s).sweep = s.sweep ∧
    (clearPumpOffEnded o s).schedule = s.schedule ∧ (clearPumpOffEnded o s).queue = s.queue ∧
    (clearPumpOffEnded o s).eqc = s.eqc ∧ (clearPumpOffEnded o s).plant = s.plant ∧
    (clearPumpOffEnded o s).demand = s.demand ∧ (clearPumpOffEnded o s).log = s.log ∧
    (clearPumpOffEnded o s).settings = s.settings ∧ (clearPumpOffEnded o s).store = s.store ∧
    (clearPumpOffEnded o s).free = s.free ∧ (clearPumpOffEnded o s).pending = s.pending := by
  unfold clearPumpOffEnded; dsimp only; repeat' split
  all_goals simp

@[simp] theorem clearCloseEnded_frame (i : StringNo) (o : TxOutcome) :
    (clearCloseEnded i o s).time = s.time ∧ (clearCloseEnded i o s).clock = s.clock ∧
    (clearCloseEnded i o s).sweep = s.sweep ∧ (clearCloseEnded i o s).schedule = s.schedule ∧
    (clearCloseEnded i o s).plant = s.plant ∧ (clearCloseEnded i o s).demand = s.demand ∧
    (clearCloseEnded i o s).settings = s.settings ∧ (clearCloseEnded i o s).store = s.store ∧
    (clearCloseEnded i o s).free = s.free ∧ (clearCloseEnded i o s).pending = s.pending := by
  unfold clearCloseEnded; dsimp only; repeat' split
  all_goals simp

@[simp] theorem judgeEqc_frame :
    (judgeEqc s).time = s.time ∧ (judgeEqc s).clock = s.clock ∧ (judgeEqc s).sweep = s.sweep ∧
    (judgeEqc s).schedule = s.schedule ∧ (judgeEqc s).wac = s.wac ∧ (judgeEqc s).plant = s.plant ∧
    (judgeEqc s).demand = s.demand ∧ (judgeEqc s).settings = s.settings ∧
    (judgeEqc s).store = s.store ∧ (judgeEqc s).free = s.free ∧ (judgeEqc s).pending = s.pending := by
  unfold judgeEqc; repeat' split
  all_goals simp

@[simp] theorem judgeWac_frame :
    (judgeWac s).time = s.time ∧ (judgeWac s).clock = s.clock ∧ (judgeWac s).strings = s.strings ∧
    (judgeWac s).sweep = s.sweep ∧ (judgeWac s).schedule = s.schedule ∧ (judgeWac s).eqc = s.eqc ∧
    (judgeWac s).plant = s.plant ∧ (judgeWac s).demand = s.demand ∧ (judgeWac s).ports = s.ports ∧
    (judgeWac s).log = s.log ∧ (judgeWac s).settings = s.settings ∧ (judgeWac s).store = s.store ∧
    (judgeWac s).free = s.free ∧ (judgeWac s).pending = s.pending := by
  unfold judgeWac; split <;> simp

@[simp] theorem judgeChannels_frame :
    (judgeChannels s).time = s.time ∧ (judgeChannels s).clock = s.clock ∧
    (judgeChannels s).sweep = s.sweep ∧ (judgeChannels s).schedule = s.schedule ∧
    (judgeChannels s).plant = s.plant ∧ (judgeChannels s).demand = s.demand ∧
    (judgeChannels s).settings = s.settings ∧ (judgeChannels s).store = s.store ∧
    (judgeChannels s).pending = s.pending := by
  unfold judgeChannels; dsimp only; repeat' split
  all_goals simp

@[simp] theorem judgeWindowNeeded_frame :
    (judgeWindowNeeded s).time = s.time ∧ (judgeWindowNeeded s).clock = s.clock ∧
    (judgeWindowNeeded s).strings = s.strings ∧ (judgeWindowNeeded s).sweep = s.sweep ∧
    (judgeWindowNeeded s).schedule = s.schedule ∧ (judgeWindowNeeded s).queue = s.queue ∧
    (judgeWindowNeeded s).eqc = s.eqc ∧ (judgeWindowNeeded s).wac = s.wac ∧
    (judgeWindowNeeded s).loop = s.loop ∧ (judgeWindowNeeded s).demand = s.demand ∧
    (judgeWindowNeeded s).log = s.log ∧ (judgeWindowNeeded s).settings = s.settings ∧
    (judgeWindowNeeded s).store = s.store ∧ (judgeWindowNeeded s).free = s.free ∧
    (judgeWindowNeeded s).pending = s.pending := by
  unfold judgeWindowNeeded; dsimp only; repeat' split
  all_goals simp

@[simp] theorem judge_frame :
    (judge s).time = s.time ∧ (judge s).clock = s.clock ∧ (judge s).sweep = s.sweep ∧
    (judge s).schedule = s.schedule ∧ (judge s).demand = s.demand ∧
    (judge s).settings = s.settings ∧ (judge s).store = s.store ∧ (judge s).pending = s.pending := by
  simp [judge]

/-! ### The Sweep Scanner (Machine/Sweep.lean) -/

@[simp] theorem reachItem_frame (l : List SweepItem) :
    (reachItem l s).time = s.time ∧ (reachItem l s).clock = s.clock ∧
    (reachItem l s).strings = s.strings ∧ (reachItem l s).schedule = s.schedule ∧
    (reachItem l s).queue = s.queue ∧ (reachItem l s).eqc = s.eqc ∧ (reachItem l s).wac = s.wac ∧
    (reachItem l s).plant = s.plant ∧ (reachItem l s).demand = s.demand ∧
    (reachItem l s).ports = s.ports ∧ (reachItem l s).log = s.log ∧
    (reachItem l s).settings = s.settings ∧ (reachItem l s).store = s.store ∧
    (reachItem l s).free = s.free ∧ (reachItem l s).pending = s.pending := by
  unfold reachItem; split <;> simp

@[simp] theorem startSweep_frame :
    (startSweep s).time = s.time ∧ (startSweep s).clock = s.clock ∧
    (startSweep s).strings = s.strings ∧ (startSweep s).schedule = s.schedule ∧
    (startSweep s).queue = s.queue ∧ (startSweep s).eqc = s.eqc ∧ (startSweep s).wac = s.wac ∧
    (startSweep s).plant = s.plant ∧ (startSweep s).demand = s.demand ∧
    (startSweep s).ports = s.ports ∧ (startSweep s).log = s.log ∧
    (startSweep s).settings = s.settings ∧ (startSweep s).store = s.store ∧
    (startSweep s).free = s.free ∧ (startSweep s).pending = s.pending := by
  simp [startSweep]

@[simp] theorem continueSweep_frame (l : List SweepItem) :
    (continueSweep l s).time = s.time ∧ (continueSweep l s).clock = s.clock ∧
    (continueSweep l s).strings = s.strings ∧ (continueSweep l s).schedule = s.schedule ∧
    (continueSweep l s).queue = s.queue ∧ (continueSweep l s).eqc = s.eqc ∧
    (continueSweep l s).wac = s.wac ∧ (continueSweep l s).plant = s.plant ∧
    (continueSweep l s).demand = s.demand ∧ (continueSweep l s).ports = s.ports ∧
    (continueSweep l s).log = s.log ∧ (continueSweep l s).settings = s.settings ∧
    (continueSweep l s).store = s.store ∧ (continueSweep l s).free = s.free ∧
    (continueSweep l s).pending = s.pending := by
  unfold continueSweep; dsimp only; repeat' split
  all_goals simp

@[simp] theorem lateMatch_frame :
    (lateMatch s).time = s.time ∧ (lateMatch s).clock = s.clock ∧
    (lateMatch s).strings = s.strings ∧ (lateMatch s).schedule = s.schedule ∧
    (lateMatch s).queue = s.queue ∧ (lateMatch s).eqc = s.eqc ∧ (lateMatch s).wac = s.wac ∧
    (lateMatch s).plant = s.plant ∧ (lateMatch s).loop = s.loop ∧ (lateMatch s).demand = s.demand ∧
    (lateMatch s).log = s.log ∧ (lateMatch s).settings = s.settings ∧
    (lateMatch s).store = s.store ∧ (lateMatch s).free = s.free ∧ (lateMatch s).pending = s.pending := by
  unfold lateMatch; split <;> simp

@[simp] theorem sweepMatched_frame :
    (sweepMatched s).time = s.time ∧ (sweepMatched s).clock = s.clock ∧
    (sweepMatched s).strings = s.strings ∧ (sweepMatched s).schedule = s.schedule ∧
    (sweepMatched s).queue = s.queue ∧ (sweepMatched s).eqc = s.eqc ∧ (sweepMatched s).wac = s.wac ∧
    (sweepMatched s).plant = s.plant ∧ (sweepMatched s).demand = s.demand ∧
    (sweepMatched s).log = s.log ∧ (sweepMatched s).settings = s.settings ∧
    (sweepMatched s).store = s.store ∧ (sweepMatched s).free = s.free ∧
    (sweepMatched s).pending = s.pending := by
  unfold sweepMatched; repeat' split
  all_goals simp

@[simp] theorem summaryAnswered_frame (i : StringNo) (x : List Octet) :
    (summaryAnswered i x s).time = s.time ∧ (summaryAnswered i x s).clock = s.clock ∧
    (summaryAnswered i x s).schedule = s.schedule ∧ (summaryAnswered i x s).queue = s.queue ∧
    (summaryAnswered i x s).eqc = s.eqc ∧ (summaryAnswered i x s).wac = s.wac ∧
    (summaryAnswered i x s).plant = s.plant ∧ (summaryAnswered i x s).demand = s.demand ∧
    (summaryAnswered i x s).ports = s.ports ∧ (summaryAnswered i x s).log = s.log ∧
    (summaryAnswered i x s).settings = s.settings ∧ (summaryAnswered i x s).store = s.store ∧
    (summaryAnswered i x s).free = s.free ∧ (summaryAnswered i x s).pending = s.pending := by
  unfold summaryAnswered; split <;> simp

@[simp] theorem spreadCheck_frame (i : StringNo) (n : Nat) :
    (spreadCheck i n s).time = s.time ∧ (spreadCheck i n s).clock = s.clock ∧
    (spreadCheck i n s).strings = s.strings ∧ (spreadCheck i n s).schedule = s.schedule ∧
    (spreadCheck i n s).eqc = s.eqc ∧ (spreadCheck i n s).wac = s.wac ∧
    (spreadCheck i n s).plant = s.plant ∧ (spreadCheck i n s).loop = s.loop ∧
    (spreadCheck i n s).demand = s.demand ∧ (spreadCheck i n s).settings = s.settings ∧
    (spreadCheck i n s).store = s.store ∧ (spreadCheck i n s).free = s.free ∧
    (spreadCheck i n s).pending = s.pending := by
  unfold spreadCheck; split <;> simp

@[simp] theorem cellsAnswered_frame (i : StringNo) (x : List Octet) :
    (cellsAnswered i x s).time = s.time ∧ (cellsAnswered i x s).clock = s.clock ∧
    (cellsAnswered i x s).schedule = s.schedule ∧ (cellsAnswered i x s).eqc = s.eqc ∧
    (cellsAnswered i x s).wac = s.wac ∧ (cellsAnswered i x s).plant = s.plant ∧
    (cellsAnswered i x s).demand = s.demand ∧ (cellsAnswered i x s).settings = s.settings ∧
    (cellsAnswered i x s).store = s.store ∧ (cellsAnswered i x s).free = s.free ∧
    (cellsAnswered i x s).pending = s.pending := by
  unfold cellsAnswered; split <;> simp

@[simp] theorem sweepItemEnded_frame (x : SweepItem) (o : TxOutcome) :
    (sweepItemEnded x o s).time = s.time ∧ (sweepItemEnded x o s).clock = s.clock ∧
    (sweepItemEnded x o s).schedule = s.schedule ∧ (sweepItemEnded x o s).eqc = s.eqc ∧
    (sweepItemEnded x o s).wac = s.wac ∧ (sweepItemEnded x o s).plant = s.plant ∧
    (sweepItemEnded x o s).demand = s.demand ∧ (sweepItemEnded x o s).settings = s.settings ∧
    (sweepItemEnded x o s).store = s.store ∧ (sweepItemEnded x o s).free = s.free ∧
    (sweepItemEnded x o s).pending = s.pending := by
  unfold sweepItemEnded; split <;> simp

/-! ### The Demand Unit (Machine/Demand.lean) -/

@[simp] theorem judgeDemand_frame :
    (judgeDemand s).time = s.time ∧ (judgeDemand s).clock = s.clock ∧
    (judgeDemand s).strings = s.strings ∧ (judgeDemand s).sweep = s.sweep ∧
    (judgeDemand s).schedule = s.schedule ∧ (judgeDemand s).queue = s.queue ∧
    (judgeDemand s).eqc = s.eqc ∧ (judgeDemand s).wac = s.wac ∧ (judgeDemand s).plant = s.plant ∧
    (judgeDemand s).ports = s.ports ∧ (judgeDemand s).log = s.log ∧
    (judgeDemand s).settings = s.settings ∧ (judgeDemand s).store = s.store ∧
    (judgeDemand s).free = s.free ∧ (judgeDemand s).pending = s.pending := by
  unfold judgeDemand; repeat' split
  all_goals simp

@[simp] theorem setWait_frame (i : StringNo) (w : Option Nat) :
    (setWait i w s).time = s.time ∧ (setWait i w s).clock = s.clock ∧
    (setWait i w s).strings = s.strings ∧ (setWait i w s).sweep = s.sweep ∧
    (setWait i w s).schedule = s.schedule ∧ (setWait i w s).queue = s.queue ∧
    (setWait i w s).eqc = s.eqc ∧ (setWait i w s).wac = s.wac ∧ (setWait i w s).plant = s.plant ∧
    (setWait i w s).loop = s.loop ∧ (setWait i w s).ports = s.ports ∧ (setWait i w s).log = s.log ∧
    (setWait i w s).settings = s.settings ∧ (setWait i w s).store = s.store ∧
    (setWait i w s).free = s.free ∧ (setWait i w s).pending = s.pending := by
  simp [setWait]

@[simp] theorem listRestarted_frame (i : StringNo) :
    (listRestarted i s).time = s.time ∧ (listRestarted i s).clock = s.clock ∧
    (listRestarted i s).strings = s.strings ∧ (listRestarted i s).sweep = s.sweep ∧
    (listRestarted i s).schedule = s.schedule ∧ (listRestarted i s).queue = s.queue ∧
    (listRestarted i s).eqc = s.eqc ∧ (listRestarted i s).wac = s.wac ∧
    (listRestarted i s).plant = s.plant ∧ (listRestarted i s).loop = s.loop ∧
    (listRestarted i s).ports = s.ports ∧ (listRestarted i s).log = s.log ∧
    (listRestarted i s).settings = s.settings ∧ (listRestarted i s).store = s.store ∧
    (listRestarted i s).free = s.free ∧ (listRestarted i s).pending = s.pending := by
  unfold listRestarted; split <;> simp

@[simp] theorem listInstalled_frame :
    (listInstalled s).time = s.time ∧ (listInstalled s).clock = s.clock ∧
    (listInstalled s).strings = s.strings ∧ (listInstalled s).sweep = s.sweep ∧
    (listInstalled s).schedule = s.schedule ∧ (listInstalled s).queue = s.queue ∧
    (listInstalled s).eqc = s.eqc ∧ (listInstalled s).wac = s.wac ∧
    (listInstalled s).plant = s.plant ∧ (listInstalled s).loop = s.loop ∧
    (listInstalled s).ports = s.ports ∧ (listInstalled s).log = s.log ∧
    (listInstalled s).settings = s.settings ∧ (listInstalled s).store = s.store ∧
    (listInstalled s).free = s.free ∧ (listInstalled s).pending = s.pending := by
  simp [listInstalled]

@[simp] theorem configEnded_frame (i : StringNo) (o : TxOutcome) :
    (configEnded i o s).time = s.time ∧ (configEnded i o s).clock = s.clock ∧
    (configEnded i o s).strings = s.strings ∧ (configEnded i o s).sweep = s.sweep ∧
    (configEnded i o s).schedule = s.schedule ∧ (configEnded i o s).queue = s.queue ∧
    (configEnded i o s).eqc = s.eqc ∧ (configEnded i o s).wac = s.wac ∧
    (configEnded i o s).plant = s.plant ∧ (configEnded i o s).loop = s.loop ∧
    (configEnded i o s).ports = s.ports ∧ (configEnded i o s).log = s.log ∧
    (configEnded i o s).settings = s.settings ∧ (configEnded i o s).store = s.store ∧
    (configEnded i o s).free = s.free ∧ (configEnded i o s).pending = s.pending := by
  simp [configEnded]

@[simp] theorem decideOnString_frame (i : StringNo) (o : EqOutcome) :
    (decideOnString i o s).time = s.time ∧ (decideOnString i o s).clock = s.clock ∧
    (decideOnString i o s).sweep = s.sweep ∧ (decideOnString i o s).schedule = s.schedule ∧
    (decideOnString i o s).wac = s.wac ∧ (decideOnString i o s).plant = s.plant ∧
    (decideOnString i o s).demand = s.demand ∧ (decideOnString i o s).settings = s.settings ∧
    (decideOnString i o s).store = s.store ∧ (decideOnString i o s).free = s.free ∧
    (decideOnString i o s).pending = s.pending := by
  unfold decideOnString; repeat' split
  all_goals simp

@[simp] theorem decideDoseOn_frame (i : StringNo) (o : WaterOutcome) :
    (decideDoseOn i o s).time = s.time ∧ (decideDoseOn i o s).clock = s.clock ∧
    (decideDoseOn i o s).sweep = s.sweep ∧ (decideDoseOn i o s).schedule = s.schedule ∧
    (decideDoseOn i o s).eqc = s.eqc ∧ (decideDoseOn i o s).plant = s.plant ∧
    (decideDoseOn i o s).demand = s.demand ∧ (decideDoseOn i o s).settings = s.settings ∧
    (decideDoseOn i o s).store = s.store ∧ (decideDoseOn i o s).free = s.free ∧
    (decideDoseOn i o s).pending = s.pending := by
  unfold decideDoseOn; repeat' split
  all_goals simp

@[simp] theorem nodeRestarted_frame (i : StringNo) :
    (nodeRestarted i s).time = s.time ∧ (nodeRestarted i s).clock = s.clock ∧
    (nodeRestarted i s).sweep = s.sweep ∧ (nodeRestarted i s).schedule = s.schedule ∧
    (nodeRestarted i s).plant = s.plant ∧ (nodeRestarted i s).settings = s.settings ∧
    (nodeRestarted i s).store = s.store ∧ (nodeRestarted i s).free = s.free ∧
    (nodeRestarted i s).pending = s.pending := by
  simp [nodeRestarted]

@[simp] theorem nodeDemand_frame (i : StringNo) (k : DemandKind) :
    (nodeDemand i k s).time = s.time ∧ (nodeDemand i k s).clock = s.clock ∧
    (nodeDemand i k s).sweep = s.sweep ∧ (nodeDemand i k s).schedule = s.schedule ∧
    (nodeDemand i k s).plant = s.plant ∧ (nodeDemand i k s).settings = s.settings ∧
    (nodeDemand i k s).store = s.store ∧ (nodeDemand i k s).free = s.free ∧
    (nodeDemand i k s).pending = s.pending := by
  unfold nodeDemand; split <;> simp

@[simp] theorem boostDemand_frame (k : DemandKind) :
    (boostDemand k s).time = s.time ∧ (boostDemand k s).clock = s.clock ∧
    (boostDemand k s).sweep = s.sweep ∧ (boostDemand k s).schedule = s.schedule ∧
    (boostDemand k s).wac = s.wac ∧ (boostDemand k s).plant = s.plant ∧
    (boostDemand k s).demand = s.demand ∧ (boostDemand k s).settings = s.settings ∧
    (boostDemand k s).store = s.store ∧ (boostDemand k s).free = s.free ∧
    (boostDemand k s).pending = s.pending := by
  unfold boostDemand; split <;> simp

@[simp] theorem waterDemand_frame (k : DemandKind) :
    (waterDemand k s).time = s.time ∧ (waterDemand k s).clock = s.clock ∧
    (waterDemand k s).sweep = s.sweep ∧ (waterDemand k s).schedule = s.schedule ∧
    (waterDemand k s).eqc = s.eqc ∧ (waterDemand k s).plant = s.plant ∧
    (waterDemand k s).demand = s.demand ∧ (waterDemand k s).settings = s.settings ∧
    (waterDemand k s).store = s.store ∧ (waterDemand k s).free = s.free ∧
    (waterDemand k s).pending = s.pending := by
  unfold waterDemand; split <;> simp

@[simp] theorem demandAction_frame (w : DemandWord) :
    (demandAction w s).time = s.time ∧ (demandAction w s).clock = s.clock ∧
    (demandAction w s).sweep = s.sweep ∧ (demandAction w s).schedule = s.schedule ∧
    (demandAction w s).plant = s.plant ∧ (demandAction w s).settings = s.settings ∧
    (demandAction w s).store = s.store ∧ (demandAction w s).free = s.free ∧
    (demandAction w s).pending = s.pending := by
  unfold demandAction; repeat' split
  all_goals simp

@[simp] theorem appendEntry_frame (e : FifoEntry) :
    (appendEntry e s).time = s.time ∧ (appendEntry e s).clock = s.clock ∧
    (appendEntry e s).strings = s.strings ∧ (appendEntry e s).sweep = s.sweep ∧
    (appendEntry e s).schedule = s.schedule ∧ (appendEntry e s).queue = s.queue ∧
    (appendEntry e s).eqc = s.eqc ∧ (appendEntry e s).wac = s.wac ∧
    (appendEntry e s).plant = s.plant ∧ (appendEntry e s).loop = s.loop ∧
    (appendEntry e s).log = s.log ∧ (appendEntry e s).settings = s.settings ∧
    (appendEntry e s).store = s.store ∧ (appendEntry e s).free = s.free ∧
    (appendEntry e s).pending = s.pending := by
  unfold appendEntry; split <;> simp

@[simp] theorem dropDemand_frame :
    (dropDemand s).time = s.time ∧ (dropDemand s).clock = s.clock ∧
    (dropDemand s).strings = s.strings ∧ (dropDemand s).sweep = s.sweep ∧
    (dropDemand s).schedule = s.schedule ∧ (dropDemand s).queue = s.queue ∧
    (dropDemand s).eqc = s.eqc ∧ (dropDemand s).wac = s.wac ∧ (dropDemand s).plant = s.plant ∧
    (dropDemand s).loop = s.loop ∧ (dropDemand s).log = s.log ∧
    (dropDemand s).settings = s.settings ∧ (dropDemand s).store = s.store ∧
    (dropDemand s).free = s.free ∧ (dropDemand s).pending = s.pending := by
  unfold dropDemand; split <;> simp

@[simp] theorem appendDemand_frame (w : DemandWord) :
    (appendDemand w s).time = s.time ∧ (appendDemand w s).clock = s.clock ∧
    (appendDemand w s).strings = s.strings ∧ (appendDemand w s).sweep = s.sweep ∧
    (appendDemand w s).schedule = s.schedule ∧ (appendDemand w s).queue = s.queue ∧
    (appendDemand w s).eqc = s.eqc ∧ (appendDemand w s).wac = s.wac ∧
    (appendDemand w s).plant = s.plant ∧ (appendDemand w s).loop = s.loop ∧
    (appendDemand w s).log = s.log ∧ (appendDemand w s).settings = s.settings ∧
    (appendDemand w s).store = s.store ∧ (appendDemand w s).free = s.free ∧
    (appendDemand w s).pending = s.pending := by
  unfold appendDemand; split <;> simp

@[simp] theorem takeWord_frame (w : DemandWord) :
    (takeWord w s).time = s.time ∧ (takeWord w s).clock = s.clock ∧ (takeWord w s).sweep = s.sweep ∧
    (takeWord w s).schedule = s.schedule ∧ (takeWord w s).plant = s.plant ∧
    (takeWord w s).settings = s.settings ∧ (takeWord w s).store = s.store ∧
    (takeWord w s).free = s.free ∧ (takeWord w s).pending = s.pending := by
  simp [takeWord]

@[simp] theorem pollReturned_frame (x : Option (MemberNo × DemandKind)) :
    (pollReturned x s).time = s.time ∧ (pollReturned x s).clock = s.clock ∧
    (pollReturned x s).strings = s.strings ∧ (pollReturned x s).sweep = s.sweep ∧
    (pollReturned x s).schedule = s.schedule ∧ (pollReturned x s).queue = s.queue ∧
    (pollReturned x s).eqc = s.eqc ∧ (pollReturned x s).wac = s.wac ∧
    (pollReturned x s).plant = s.plant ∧ (pollReturned x s).loop = s.loop ∧
    (pollReturned x s).ports = s.ports ∧ (pollReturned x s).log = s.log ∧
    (pollReturned x s).settings = s.settings ∧ (pollReturned x s).store = s.store ∧
    (pollReturned x s).free = s.free ∧ (pollReturned x s).pending = s.pending := by
  simp [pollReturned]

@[simp] theorem pollFailed_frame :
    (pollFailed s).time = s.time ∧ (pollFailed s).clock = s.clock ∧
    (pollFailed s).strings = s.strings ∧ (pollFailed s).sweep = s.sweep ∧
    (pollFailed s).schedule = s.schedule ∧ (pollFailed s).queue = s.queue ∧
    (pollFailed s).eqc = s.eqc ∧ (pollFailed s).wac = s.wac ∧ (pollFailed s).plant = s.plant ∧
    (pollFailed s).loop = s.loop ∧ (pollFailed s).ports = s.ports ∧ (pollFailed s).log = s.log ∧
    (pollFailed s).settings = s.settings ∧ (pollFailed s).store = s.store ∧
    (pollFailed s).free = s.free ∧ (pollFailed s).pending = s.pending := by
  simp [pollFailed]

@[simp] theorem takePoll_frame (x : PollRead) :
    (takePoll x s).time = s.time ∧ (takePoll x s).clock = s.clock ∧ (takePoll x s).sweep = s.sweep ∧
    (takePoll x s).schedule = s.schedule ∧ (takePoll x s).plant = s.plant ∧
    (takePoll x s).settings = s.settings ∧ (takePoll x s).store = s.store ∧
    (takePoll x s).free = s.free ∧ (takePoll x s).pending = s.pending := by
  unfold takePoll; split <;> simp

/-! ### The Loop Controller (Machine/Loop.lean) -/

@[simp] theorem setInFlight_frame (x : Option InFlight) :
    (setInFlight x s).time = s.time ∧ (setInFlight x s).clock = s.clock ∧
    (setInFlight x s).strings = s.strings ∧ (setInFlight x s).sweep = s.sweep ∧
    (setInFlight x s).schedule = s.schedule ∧ (setInFlight x s).queue = s.queue ∧
    (setInFlight x s).eqc = s.eqc ∧ (setInFlight x s).wac = s.wac ∧
    (setInFlight x s).plant = s.plant ∧ (setInFlight x s).demand = s.demand ∧
    (setInFlight x s).ports = s.ports ∧ (setInFlight x s).log = s.log ∧
    (setInFlight x s).settings = s.settings ∧ (setInFlight x s).store = s.store ∧
    (setInFlight x s).free = s.free ∧ (setInFlight x s).pending = s.pending := by
  simp [setInFlight]

@[simp] theorem startTransaction_frame (x : Claimant) (m : MemberNo) (c : LoopCommand) :
    (startTransaction x m c s).time = s.time ∧ (startTransaction x m c s).clock = s.clock ∧
    (startTransaction x m c s).strings = s.strings ∧ (startTransaction x m c s).sweep = s.sweep ∧
    (startTransaction x m c s).schedule = s.schedule ∧ (startTransaction x m c s).queue = s.queue ∧
    (startTransaction x m c s).eqc = s.eqc ∧ (startTransaction x m c s).wac = s.wac ∧
    (startTransaction x m c s).plant = s.plant ∧ (startTransaction x m c s).demand = s.demand ∧
    (startTransaction x m c s).ports = s.ports ∧ (startTransaction x m c s).log = s.log ∧
    (startTransaction x m c s).settings = s.settings ∧ (startTransaction x m c s).store = s.store ∧
    (startTransaction x m c s).free = s.free ∧ (startTransaction x m c s).pending = s.pending := by
  simp [startTransaction]

@[simp] theorem putTransaction_frame (t : Transaction) :
    (putTransaction t s).time = s.time ∧ (putTransaction t s).clock = s.clock ∧
    (putTransaction t s).strings = s.strings ∧ (putTransaction t s).sweep = s.sweep ∧
    (putTransaction t s).schedule = s.schedule ∧ (putTransaction t s).queue = s.queue ∧
    (putTransaction t s).eqc = s.eqc ∧ (putTransaction t s).wac = s.wac ∧
    (putTransaction t s).plant = s.plant ∧ (putTransaction t s).demand = s.demand ∧
    (putTransaction t s).ports = s.ports ∧ (putTransaction t s).log = s.log ∧
    (putTransaction t s).settings = s.settings ∧ (putTransaction t s).store = s.store ∧
    (putTransaction t s).free = s.free ∧ (putTransaction t s).pending = s.pending := by
  simp [putTransaction]

@[simp] theorem countOutcome_frame (m : MemberNo) (o : TxOutcome) :
    (countOutcome m o s).time = s.time ∧ (countOutcome m o s).clock = s.clock ∧
    (countOutcome m o s).strings = s.strings ∧ (countOutcome m o s).sweep = s.sweep ∧
    (countOutcome m o s).schedule = s.schedule ∧ (countOutcome m o s).queue = s.queue ∧
    (countOutcome m o s).eqc = s.eqc ∧ (countOutcome m o s).wac = s.wac ∧
    (countOutcome m o s).plant = s.plant ∧ (countOutcome m o s).demand = s.demand ∧
    (countOutcome m o s).ports = s.ports ∧ (countOutcome m o s).log = s.log ∧
    (countOutcome m o s).settings = s.settings ∧ (countOutcome m o s).store = s.store ∧
    (countOutcome m o s).free = s.free ∧ (countOutcome m o s).pending = s.pending := by
  simp [countOutcome]

@[simp] theorem handAbsence_frame (m : MemberNo) :
    (handAbsence m s).time = s.time ∧ (handAbsence m s).clock = s.clock ∧
    (handAbsence m s).sweep = s.sweep ∧ (handAbsence m s).schedule = s.schedule ∧
    (handAbsence m s).plant = s.plant ∧ (handAbsence m s).demand = s.demand ∧
    (handAbsence m s).settings = s.settings ∧ (handAbsence m s).store = s.store ∧
    (handAbsence m s).free = s.free ∧ (handAbsence m s).pending = s.pending := by
  unfold handAbsence; repeat' split
  all_goals simp

@[simp] theorem slotDone_frame (p : SlotPort) (x : SlotResult) :
    (slotDone p x s).time = s.time ∧ (slotDone p x s).clock = s.clock ∧
    (slotDone p x s).strings = s.strings ∧ (slotDone p x s).sweep = s.sweep ∧
    (slotDone p x s).schedule = s.schedule ∧ (slotDone p x s).queue = s.queue ∧
    (slotDone p x s).eqc = s.eqc ∧ (slotDone p x s).wac = s.wac ∧ (slotDone p x s).plant = s.plant ∧
    (slotDone p x s).demand = s.demand ∧ (slotDone p x s).log = s.log ∧
    (slotDone p x s).settings = s.settings ∧ (slotDone p x s).store = s.store ∧
    (slotDone p x s).free = s.free ∧ (slotDone p x s).pending = s.pending := by
  simp [slotDone]

@[simp] theorem grantSlot_frame (p : SlotPort) (m : MemberNo) (c : LoopCommand) :
    (grantSlot p m c s).time = s.time ∧ (grantSlot p m c s).clock = s.clock ∧
    (grantSlot p m c s).strings = s.strings ∧ (grantSlot p m c s).sweep = s.sweep ∧
    (grantSlot p m c s).schedule = s.schedule ∧ (grantSlot p m c s).queue = s.queue ∧
    (grantSlot p m c s).eqc = s.eqc ∧ (grantSlot p m c s).wac = s.wac ∧
    (grantSlot p m c s).plant = s.plant ∧ (grantSlot p m c s).demand = s.demand ∧
    (grantSlot p m c s).log = s.log ∧ (grantSlot p m c s).settings = s.settings ∧
    (grantSlot p m c s).store = s.store ∧ (grantSlot p m c s).free = s.free ∧
    (grantSlot p m c s).pending = s.pending := by
  unfold grantSlot; split <;> simp

@[simp] theorem setRelease_frame (x : Release) :
    (setRelease x s).time = s.time ∧ (setRelease x s).clock = s.clock ∧
    (setRelease x s).strings = s.strings ∧ (setRelease x s).sweep = s.sweep ∧
    (setRelease x s).schedule = s.schedule ∧ (setRelease x s).queue = s.queue ∧
    (setRelease x s).eqc = s.eqc ∧ (setRelease x s).wac = s.wac ∧ (setRelease x s).plant = s.plant ∧
    (setRelease x s).demand = s.demand ∧ (setRelease x s).ports = s.ports ∧
    (setRelease x s).log = s.log ∧ (setRelease x s).settings = s.settings ∧
    (setRelease x s).store = s.store ∧ (setRelease x s).free = s.free ∧
    (setRelease x s).pending = s.pending := by
  simp [setRelease]

@[simp] theorem serveDetach_frame :
    (serveDetach s).time = s.time ∧ (serveDetach s).clock = s.clock ∧
    (serveDetach s).strings = s.strings ∧ (serveDetach s).sweep = s.sweep ∧
    (serveDetach s).schedule = s.schedule ∧ (serveDetach s).queue = s.queue ∧
    (serveDetach s).eqc = s.eqc ∧ (serveDetach s).wac = s.wac ∧ (serveDetach s).plant = s.plant ∧
    (serveDetach s).demand = s.demand ∧ (serveDetach s).ports = s.ports ∧
    (serveDetach s).log = s.log ∧ (serveDetach s).settings = s.settings ∧
    (serveDetach s).store = s.store ∧ (serveDetach s).free = s.free ∧
    (serveDetach s).pending = s.pending := by
  unfold serveDetach; split <;> simp

@[simp] theorem servePumpOff_frame :
    (servePumpOff s).time = s.time ∧ (servePumpOff s).clock = s.clock ∧
    (servePumpOff s).strings = s.strings ∧ (servePumpOff s).sweep = s.sweep ∧
    (servePumpOff s).schedule = s.schedule ∧ (servePumpOff s).queue = s.queue ∧
    (servePumpOff s).eqc = s.eqc ∧ (servePumpOff s).wac = s.wac ∧ (servePumpOff s).plant = s.plant ∧
    (servePumpOff s).demand = s.demand ∧ (servePumpOff s).ports = s.ports ∧
    (servePumpOff s).log = s.log ∧ (servePumpOff s).settings = s.settings ∧
    (servePumpOff s).store = s.store ∧ (servePumpOff s).free = s.free ∧
    (servePumpOff s).pending = s.pending := by
  unfold servePumpOff; split <;> simp

@[simp] theorem sendBoost_frame :
    (sendBoost s).time = s.time ∧ (sendBoost s).clock = s.clock ∧
    (sendBoost s).strings = s.strings ∧ (sendBoost s).sweep = s.sweep ∧
    (sendBoost s).schedule = s.schedule ∧ (sendBoost s).queue = s.queue ∧
    (sendBoost s).eqc = s.eqc ∧ (sendBoost s).wac = s.wac ∧ (sendBoost s).plant = s.plant ∧
    (sendBoost s).demand = s.demand ∧ (sendBoost s).ports = s.ports ∧ (sendBoost s).log = s.log ∧
    (sendBoost s).settings = s.settings ∧ (sendBoost s).store = s.store ∧
    (sendBoost s).free = s.free ∧ (sendBoost s).pending = s.pending := by
  unfold sendBoost; split <;> simp

@[simp] theorem sendStep_frame (x : SafeStep) :
    (sendStep x s).time = s.time ∧ (sendStep x s).clock = s.clock ∧
    (sendStep x s).strings = s.strings ∧ (sendStep x s).sweep = s.sweep ∧
    (sendStep x s).schedule = s.schedule ∧ (sendStep x s).queue = s.queue ∧
    (sendStep x s).eqc = s.eqc ∧ (sendStep x s).wac = s.wac ∧ (sendStep x s).plant = s.plant ∧
    (sendStep x s).demand = s.demand ∧ (sendStep x s).ports = s.ports ∧ (sendStep x s).log = s.log ∧
    (sendStep x s).settings = s.settings ∧ (sendStep x s).store = s.store ∧
    (sendStep x s).free = s.free ∧ (sendStep x s).pending = s.pending := by
  unfold sendStep; split <;> simp

@[simp] theorem finishSafe_frame (b : Bool) :
    (finishSafe b s).time = s.time ∧ (finishSafe b s).clock = s.clock ∧
    (finishSafe b s).strings = s.strings ∧ (finishSafe b s).sweep = s.sweep ∧
    (finishSafe b s).schedule = s.schedule ∧ (finishSafe b s).queue = s.queue ∧
    (finishSafe b s).wac = s.wac ∧ (finishSafe b s).plant = s.plant ∧
    (finishSafe b s).demand = s.demand ∧ (finishSafe b s).ports = s.ports ∧
    (finishSafe b s).log = s.log ∧ (finishSafe b s).settings = s.settings ∧
    (finishSafe b s).store = s.store ∧ (finishSafe b s).free = s.free ∧
    (finishSafe b s).pending = s.pending := by
  unfold finishSafe; split <;> simp

@[simp] theorem nextSafe_frame :
    (nextSafe s).time = s.time ∧ (nextSafe s).clock = s.clock ∧ (nextSafe s).strings = s.strings ∧
    (nextSafe s).sweep = s.sweep ∧ (nextSafe s).schedule = s.schedule ∧
    (nextSafe s).queue = s.queue ∧ (nextSafe s).wac = s.wac ∧ (nextSafe s).plant = s.plant ∧
    (nextSafe s).demand = s.demand ∧ (nextSafe s).ports = s.ports ∧ (nextSafe s).log = s.log ∧
    (nextSafe s).settings = s.settings ∧ (nextSafe s).store = s.store ∧ (nextSafe s).free = s.free ∧
    (nextSafe s).pending = s.pending := by
  unfold nextSafe; repeat' split
  all_goals simp

@[simp] theorem startSafe_frame :
    (startSafe s).time = s.time ∧ (startSafe s).clock = s.clock ∧
    (startSafe s).strings = s.strings ∧ (startSafe s).sweep = s.sweep ∧
    (startSafe s).schedule = s.schedule ∧ (startSafe s).queue = s.queue ∧
    (startSafe s).wac = s.wac ∧ (startSafe s).plant = s.plant ∧ (startSafe s).demand = s.demand ∧
    (startSafe s).ports = s.ports ∧ (startSafe s).log = s.log ∧
    (startSafe s).settings = s.settings ∧ (startSafe s).store = s.store ∧
    (startSafe s).free = s.free ∧ (startSafe s).pending = s.pending := by
  unfold startSafe; split <;> simp

@[simp] theorem safeDetachEnded_frame (o : TxOutcome) :
    (safeDetachEnded o s).time = s.time ∧ (safeDetachEnded o s).clock = s.clock ∧
    (safeDetachEnded o s).sweep = s.sweep ∧ (safeDetachEnded o s).schedule = s.schedule ∧
    (safeDetachEnded o s).plant = s.plant ∧ (safeDetachEnded o s).demand = s.demand ∧
    (safeDetachEnded o s).settings = s.settings ∧ (safeDetachEnded o s).store = s.store ∧
    (safeDetachEnded o s).free = s.free ∧ (safeDetachEnded o s).pending = s.pending := by
  unfold safeDetachEnded; repeat' split
  all_goals simp

@[simp] theorem safePumpOffEnded_frame (o : TxOutcome) :
    (safePumpOffEnded o s).time = s.time ∧ (safePumpOffEnded o s).clock = s.clock ∧
    (safePumpOffEnded o s).strings = s.strings ∧ (safePumpOffEnded o s).sweep = s.sweep ∧
    (safePumpOffEnded o s).schedule = s.schedule ∧ (safePumpOffEnded o s).queue = s.queue ∧
    (safePumpOffEnded o s).eqc = s.eqc ∧ (safePumpOffEnded o s).plant = s.plant ∧
    (safePumpOffEnded o s).demand = s.demand ∧ (safePumpOffEnded o s).log = s.log ∧
    (safePumpOffEnded o s).settings = s.settings ∧ (safePumpOffEnded o s).store = s.store ∧
    (safePumpOffEnded o s).free = s.free ∧ (safePumpOffEnded o s).pending = s.pending := by
  unfold safePumpOffEnded; repeat' split
  all_goals simp

@[simp] theorem safeAttachEnded_frame (i : StringNo) (o : TxOutcome) :
    (safeAttachEnded i o s).time = s.time ∧ (safeAttachEnded i o s).clock = s.clock ∧
    (safeAttachEnded i o s).sweep = s.sweep ∧ (safeAttachEnded i o s).schedule = s.schedule ∧
    (safeAttachEnded i o s).wac = s.wac ∧ (safeAttachEnded i o s).plant = s.plant ∧
    (safeAttachEnded i o s).demand = s.demand ∧ (safeAttachEnded i o s).settings = s.settings ∧
    (safeAttachEnded i o s).store = s.store ∧ (safeAttachEnded i o s).free = s.free ∧
    (safeAttachEnded i o s).pending = s.pending := by
  unfold safeAttachEnded; split <;> simp

@[simp] theorem safeStandbyEnded_frame (o : TxOutcome) :
    (safeStandbyEnded o s).time = s.time ∧ (safeStandbyEnded o s).clock = s.clock ∧
    (safeStandbyEnded o s).sweep = s.sweep ∧ (safeStandbyEnded o s).schedule = s.schedule ∧
    (safeStandbyEnded o s).wac = s.wac ∧ (safeStandbyEnded o s).plant = s.plant ∧
    (safeStandbyEnded o s).demand = s.demand ∧ (safeStandbyEnded o s).settings = s.settings ∧
    (safeStandbyEnded o s).store = s.store ∧ (safeStandbyEnded o s).free = s.free ∧
    (safeStandbyEnded o s).pending = s.pending := by
  unfold safeStandbyEnded; repeat' split
  all_goals simp

@[simp] theorem safeJobEnded_frame (j : SafeJob) (o : TxOutcome) :
    (safeJobEnded j o s).time = s.time ∧ (safeJobEnded j o s).clock = s.clock ∧
    (safeJobEnded j o s).sweep = s.sweep ∧ (safeJobEnded j o s).schedule = s.schedule ∧
    (safeJobEnded j o s).plant = s.plant ∧ (safeJobEnded j o s).demand = s.demand ∧
    (safeJobEnded j o s).settings = s.settings ∧ (safeJobEnded j o s).store = s.store ∧
    (safeJobEnded j o s).free = s.free ∧ (safeJobEnded j o s).pending = s.pending := by
  unfold safeJobEnded; split <;> simp

@[simp] theorem safeGoesOn_frame (j : SafeJob) (o : TxOutcome) :
    (safeGoesOn j o s).time = s.time ∧ (safeGoesOn j o s).clock = s.clock ∧
    (safeGoesOn j o s).strings = s.strings ∧ (safeGoesOn j o s).sweep = s.sweep ∧
    (safeGoesOn j o s).schedule = s.schedule ∧ (safeGoesOn j o s).queue = s.queue ∧
    (safeGoesOn j o s).wac = s.wac ∧ (safeGoesOn j o s).plant = s.plant ∧
    (safeGoesOn j o s).demand = s.demand ∧ (safeGoesOn j o s).ports = s.ports ∧
    (safeGoesOn j o s).log = s.log ∧ (safeGoesOn j o s).settings = s.settings ∧
    (safeGoesOn j o s).store = s.store ∧ (safeGoesOn j o s).free = s.free ∧
    (safeGoesOn j o s).pending = s.pending := by
  unfold safeGoesOn; split <;> simp

@[simp] theorem handOutcome_frame (x : Claimant) (o : TxOutcome) :
    (handOutcome x o s).time = s.time ∧ (handOutcome x o s).clock = s.clock ∧
    (handOutcome x o s).schedule = s.schedule ∧ (handOutcome x o s).plant = s.plant ∧
    (handOutcome x o s).settings = s.settings ∧ (handOutcome x o s).store = s.store ∧
    (handOutcome x o s).free = s.free ∧ (handOutcome x o s).pending = s.pending := by
  unfold handOutcome; repeat' split
  all_goals simp

@[simp] theorem handBoth_frame (t : Transaction) (o : TxOutcome) :
    (handBoth t o s).time = s.time ∧ (handBoth t o s).clock = s.clock ∧
    (handBoth t o s).schedule = s.schedule ∧ (handBoth t o s).plant = s.plant ∧
    (handBoth t o s).settings = s.settings ∧ (handBoth t o s).store = s.store ∧
    (handBoth t o s).pending = s.pending := by
  unfold handBoth; dsimp only; repeat' split
  all_goals simp

@[simp] theorem afterEnd_frame (t : Transaction) (o : TxOutcome) :
    (afterEnd t o s).time = s.time ∧ (afterEnd t o s).clock = s.clock ∧
    (afterEnd t o s).strings = s.strings ∧ (afterEnd t o s).sweep = s.sweep ∧
    (afterEnd t o s).schedule = s.schedule ∧ (afterEnd t o s).queue = s.queue ∧
    (afterEnd t o s).wac = s.wac ∧ (afterEnd t o s).plant = s.plant ∧
    (afterEnd t o s).demand = s.demand ∧ (afterEnd t o s).ports = s.ports ∧
    (afterEnd t o s).log = s.log ∧ (afterEnd t o s).settings = s.settings ∧
    (afterEnd t o s).store = s.store ∧ (afterEnd t o s).free = s.free ∧
    (afterEnd t o s).pending = s.pending := by
  unfold afterEnd; repeat' split
  all_goals simp

@[simp] theorem endTransaction_frame (t : Transaction) (o : TxOutcome) :
    (endTransaction t o s).time = s.time ∧ (endTransaction t o s).clock = s.clock ∧
    (endTransaction t o s).schedule = s.schedule ∧ (endTransaction t o s).settings = s.settings ∧
    (endTransaction t o s).store = s.store ∧ (endTransaction t o s).pending = s.pending := by
  unfold endTransaction; split <;> simp

@[simp] theorem failAttempt_frame (t : Transaction) (o : TxOutcome) :
    (failAttempt t o s).time = s.time ∧ (failAttempt t o s).clock = s.clock ∧
    (failAttempt t o s).schedule = s.schedule ∧ (failAttempt t o s).settings = s.settings ∧
    (failAttempt t o s).store = s.store ∧ (failAttempt t o s).pending = s.pending := by
  unfold failAttempt; split <;> simp

@[simp] theorem takeReply_frame (t : Transaction) (x : ReplyRead) :
    (takeReply t x s).time = s.time ∧ (takeReply t x s).clock = s.clock ∧
    (takeReply t x s).schedule = s.schedule ∧ (takeReply t x s).settings = s.settings ∧
    (takeReply t x s).store = s.store ∧ (takeReply t x s).pending = s.pending := by
  unfold takeReply; repeat' split
  all_goals simp

@[simp] theorem grantService_frame :
    (grantService s).time = s.time ∧ (grantService s).clock = s.clock ∧
    (grantService s).strings = s.strings ∧ (grantService s).sweep = s.sweep ∧
    (grantService s).schedule = s.schedule ∧ (grantService s).queue = s.queue ∧
    (grantService s).eqc = s.eqc ∧ (grantService s).wac = s.wac ∧ (grantService s).plant = s.plant ∧
    (grantService s).demand = s.demand ∧ (grantService s).log = s.log ∧
    (grantService s).settings = s.settings ∧ (grantService s).store = s.store ∧
    (grantService s).free = s.free ∧ (grantService s).pending = s.pending := by
  unfold grantService; split <;> simp

@[simp] theorem grantRelease_frame :
    (grantRelease s).time = s.time ∧ (grantRelease s).clock = s.clock ∧
    (grantRelease s).strings = s.strings ∧ (grantRelease s).sweep = s.sweep ∧
    (grantRelease s).schedule = s.schedule ∧ (grantRelease s).queue = s.queue ∧
    (grantRelease s).eqc = s.eqc ∧ (grantRelease s).wac = s.wac ∧ (grantRelease s).plant = s.plant ∧
    (grantRelease s).demand = s.demand ∧ (grantRelease s).log = s.log ∧
    (grantRelease s).settings = s.settings ∧ (grantRelease s).store = s.store ∧
    (grantRelease s).free = s.free ∧ (grantRelease s).pending = s.pending := by
  simp [grantRelease]

@[simp] theorem endRelease_frame :
    (endRelease s).time = s.time ∧ (endRelease s).clock = s.clock ∧
    (endRelease s).strings = s.strings ∧ (endRelease s).sweep = s.sweep ∧
    (endRelease s).schedule = s.schedule ∧ (endRelease s).queue = s.queue ∧
    (endRelease s).wac = s.wac ∧ (endRelease s).plant = s.plant ∧ (endRelease s).demand = s.demand ∧
    (endRelease s).ports = s.ports ∧ (endRelease s).log = s.log ∧
    (endRelease s).settings = s.settings ∧ (endRelease s).store = s.store ∧
    (endRelease s).free = s.free ∧ (endRelease s).pending = s.pending := by
  unfold endRelease; dsimp only; repeat' split
  all_goals simp

@[simp] theorem grantDemand_frame (j : DemandJob) :
    (grantDemand j s).time = s.time ∧ (grantDemand j s).clock = s.clock ∧
    (grantDemand j s).strings = s.strings ∧ (grantDemand j s).sweep = s.sweep ∧
    (grantDemand j s).schedule = s.schedule ∧ (grantDemand j s).queue = s.queue ∧
    (grantDemand j s).eqc = s.eqc ∧ (grantDemand j s).wac = s.wac ∧
    (grantDemand j s).plant = s.plant ∧ (grantDemand j s).ports = s.ports ∧
    (grantDemand j s).log = s.log ∧ (grantDemand j s).settings = s.settings ∧
    (grantDemand j s).store = s.store ∧ (grantDemand j s).free = s.free ∧
    (grantDemand j s).pending = s.pending := by
  unfold grantDemand; split <;> simp

@[simp] theorem grantSweep_frame (x : SweepItem) :
    (grantSweep x s).time = s.time ∧ (grantSweep x s).clock = s.clock ∧
    (grantSweep x s).strings = s.strings ∧ (grantSweep x s).schedule = s.schedule ∧
    (grantSweep x s).queue = s.queue ∧ (grantSweep x s).eqc = s.eqc ∧ (grantSweep x s).wac = s.wac ∧
    (grantSweep x s).plant = s.plant ∧ (grantSweep x s).demand = s.demand ∧
    (grantSweep x s).ports = s.ports ∧ (grantSweep x s).log = s.log ∧
    (grantSweep x s).settings = s.settings ∧ (grantSweep x s).store = s.store ∧
    (grantSweep x s).free = s.free ∧ (grantSweep x s).pending = s.pending := by
  unfold grantSweep; dsimp only; repeat' split
  all_goals simp

@[simp] theorem grantWater_frame (j : WaterJob) :
    (grantWater j s).time = s.time ∧ (grantWater j s).clock = s.clock ∧
    (grantWater j s).strings = s.strings ∧ (grantWater j s).sweep = s.sweep ∧
    (grantWater j s).schedule = s.schedule ∧ (grantWater j s).queue = s.queue ∧
    (grantWater j s).eqc = s.eqc ∧ (grantWater j s).plant = s.plant ∧
    (grantWater j s).demand = s.demand ∧ (grantWater j s).ports = s.ports ∧
    (grantWater j s).log = s.log ∧ (grantWater j s).settings = s.settings ∧
    (grantWater j s).store = s.store ∧ (grantWater j s).free = s.free ∧
    (grantWater j s).pending = s.pending := by
  unfold grantWater; split <;> simp

@[simp] theorem grantEqualise_frame (j : EqJob) :
    (grantEqualise j s).time = s.time ∧ (grantEqualise j s).clock = s.clock ∧
    (grantEqualise j s).strings = s.strings ∧ (grantEqualise j s).sweep = s.sweep ∧
    (grantEqualise j s).schedule = s.schedule ∧ (grantEqualise j s).queue = s.queue ∧
    (grantEqualise j s).wac = s.wac ∧ (grantEqualise j s).plant = s.plant ∧
    (grantEqualise j s).demand = s.demand ∧ (grantEqualise j s).ports = s.ports ∧
    (grantEqualise j s).log = s.log ∧ (grantEqualise j s).settings = s.settings ∧
    (grantEqualise j s).store = s.store ∧ (grantEqualise j s).free = s.free ∧
    (grantEqualise j s).pending = s.pending := by
  unfold grantEqualise; split <;> simp

@[simp] theorem grantPassThrough_frame :
    (grantPassThrough s).time = s.time ∧ (grantPassThrough s).clock = s.clock ∧
    (grantPassThrough s).strings = s.strings ∧ (grantPassThrough s).sweep = s.sweep ∧
    (grantPassThrough s).schedule = s.schedule ∧ (grantPassThrough s).queue = s.queue ∧
    (grantPassThrough s).eqc = s.eqc ∧ (grantPassThrough s).wac = s.wac ∧
    (grantPassThrough s).plant = s.plant ∧ (grantPassThrough s).demand = s.demand ∧
    (grantPassThrough s).log = s.log ∧ (grantPassThrough s).settings = s.settings ∧
    (grantPassThrough s).store = s.store ∧ (grantPassThrough s).free = s.free ∧
    (grantPassThrough s).pending = s.pending := by
  unfold grantPassThrough; split <;> simp

@[simp] theorem grantHighest_frame :
    (grantHighest s).time = s.time ∧ (grantHighest s).clock = s.clock ∧
    (grantHighest s).strings = s.strings ∧ (grantHighest s).schedule = s.schedule ∧
    (grantHighest s).queue = s.queue ∧ (grantHighest s).plant = s.plant ∧
    (grantHighest s).log = s.log ∧ (grantHighest s).settings = s.settings ∧
    (grantHighest s).store = s.store ∧ (grantHighest s).free = s.free ∧
    (grantHighest s).pending = s.pending := by
  unfold grantHighest; split <;> simp

/-! ### The Window and Plant Unit and the Schedule List (Machine/Plant.lean, Schedule.lean) -/

@[simp] theorem openWindow_frame (b n : Nat) :
    (openWindow b n s).time = s.time ∧ (openWindow b n s).clock = s.clock ∧
    (openWindow b n s).sweep = s.sweep ∧ (openWindow b n s).schedule = s.schedule ∧
    (openWindow b n s).demand = s.demand ∧ (openWindow b n s).settings = s.settings ∧
    (openWindow b n s).store = s.store ∧ (openWindow b n s).pending = s.pending := by
  unfold openWindow; split <;> simp

@[simp] theorem closeWindowNow_frame :
    (closeWindowNow s).time = s.time ∧ (closeWindowNow s).clock = s.clock ∧
    (closeWindowNow s).sweep = s.sweep ∧ (closeWindowNow s).schedule = s.schedule ∧
    (closeWindowNow s).demand = s.demand ∧ (closeWindowNow s).settings = s.settings ∧
    (closeWindowNow s).store = s.store ∧ (closeWindowNow s).pending = s.pending := by
  unfold closeWindowNow; split <;> simp

@[simp] theorem dischargeArises_frame :
    (dischargeArises s).time = s.time ∧ (dischargeArises s).clock = s.clock ∧
    (dischargeArises s).sweep = s.sweep ∧ (dischargeArises s).schedule = s.schedule ∧
    (dischargeArises s).plant = s.plant ∧ (dischargeArises s).demand = s.demand ∧
    (dischargeArises s).settings = s.settings ∧ (dischargeArises s).store = s.store ∧
    (dischargeArises s).free = s.free ∧ (dischargeArises s).pending = s.pending := by
  simp [dischargeArises]

@[simp] theorem staleEnds_frame :
    (staleEnds s).time = s.time ∧ (staleEnds s).clock = s.clock ∧
    (staleEnds s).strings = s.strings ∧ (staleEnds s).sweep = s.sweep ∧
    (staleEnds s).schedule = s.schedule ∧ (staleEnds s).queue = s.queue ∧
    (staleEnds s).wac = s.wac ∧ (staleEnds s).loop = s.loop ∧ (staleEnds s).demand = s.demand ∧
    (staleEnds s).ports = s.ports ∧ (staleEnds s).log = s.log ∧
    (staleEnds s).settings = s.settings ∧ (staleEnds s).store = s.store ∧
    (staleEnds s).free = s.free ∧ (staleEnds s).pending = s.pending := by
  unfold staleEnds; split <;> simp

@[simp] theorem writePlant_frame (r : PlantReport) :
    (writePlant r s).time = s.time ∧ (writePlant r s).clock = s.clock ∧
    (writePlant r s).sweep = s.sweep ∧ (writePlant r s).schedule = s.schedule ∧
    (writePlant r s).demand = s.demand ∧ (writePlant r s).settings = s.settings ∧
    (writePlant r s).store = s.store ∧ (writePlant r s).pending = s.pending := by
  unfold writePlant; split <;> simp

@[simp] theorem staleArises_frame :
    (staleArises s).time = s.time ∧ (staleArises s).clock = s.clock ∧
    (staleArises s).sweep = s.sweep ∧ (staleArises s).schedule = s.schedule ∧
    (staleArises s).demand = s.demand ∧ (staleArises s).settings = s.settings ∧
    (staleArises s).store = s.store ∧ (staleArises s).pending = s.pending := by
  unfold staleArises; split <;> simp

@[simp] theorem setHold_frame :
    (setHold s).time = s.time ∧ (setHold s).clock = s.clock ∧ (setHold s).sweep = s.sweep ∧
    (setHold s).schedule = s.schedule ∧ (setHold s).demand = s.demand ∧
    (setHold s).settings = s.settings ∧ (setHold s).store = s.store ∧
    (setHold s).pending = s.pending := by
  unfold setHold; split <;> simp

@[simp] theorem clearHold_frame :
    (clearHold s).time = s.time ∧ (clearHold s).clock = s.clock ∧ (clearHold s).sweep = s.sweep ∧
    (clearHold s).schedule = s.schedule ∧ (clearHold s).demand = s.demand ∧
    (clearHold s).settings = s.settings ∧ (clearHold s).store = s.store ∧
    (clearHold s).pending = s.pending := by
  unfold clearHold; split <;> simp

@[simp] theorem traverse_frame :
    (traverse s).time = s.time ∧ (traverse s).clock = s.clock ∧ (traverse s).sweep = s.sweep ∧
    (traverse s).schedule = s.schedule ∧ (traverse s).demand = s.demand ∧
    (traverse s).settings = s.settings ∧ (traverse s).store = s.store ∧
    (traverse s).pending = s.pending := by
  refine foldl_keeps (P := fun t =>
      t.time = s.time ∧ t.clock = s.clock ∧ t.sweep = s.sweep ∧ t.schedule = s.schedule ∧
      t.demand = s.demand ∧ t.settings = s.settings ∧ t.store = s.store ∧ t.pending =
      s.pending)
    _ (fun t e h => ?_) _ s (by simp)
  unfold judgeEntry; dsimp only; split <;> simpa using h

/-! ### Resets (Machine/Reset.lean) -/

@[simp] theorem afterLoad_frame (c : Cause) :
    (afterLoad c s).time = s.time ∧ (afterLoad c s).clock = s.clock ∧
    (afterLoad c s).strings = s.strings ∧ (afterLoad c s).sweep = s.sweep ∧
    (afterLoad c s).schedule = s.schedule ∧ (afterLoad c s).queue = s.queue ∧
    (afterLoad c s).wac = s.wac ∧ (afterLoad c s).plant = s.plant ∧
    (afterLoad c s).settings = s.settings ∧ (afterLoad c s).store = s.store ∧
    (afterLoad c s).free = s.free ∧ (afterLoad c s).pending = s.pending := by
  unfold afterLoad; split <;> simp

@[simp] theorem takePowerOn_frame (x : Straps) :
    (takePowerOn x s).free = s.free ∧ (takePowerOn x s).pending = s.pending := by
  simp [takePowerOn, blocksReset]

@[simp] theorem takePinReset_frame (x : Straps) :
    (takePinReset x s).clock = s.clock ∧ (takePinReset x s).free = s.free ∧
    (takePinReset x s).pending = s.pending := by
  simp [takePinReset, blocksReset]

/-! ### Due events and the tick (Machine/Tick.lean) -/

@[simp] theorem takeMinute_frame :
    (takeMinute s).clock = s.clock ∧ (takeMinute s).sweep = s.sweep ∧
    (takeMinute s).schedule = s.schedule ∧ (takeMinute s).queue = s.queue ∧
    (takeMinute s).eqc = s.eqc ∧ (takeMinute s).wac = s.wac ∧ (takeMinute s).loop = s.loop ∧
    (takeMinute s).demand = s.demand ∧ (takeMinute s).ports = s.ports ∧ (takeMinute s).log = s.log ∧
    (takeMinute s).settings = s.settings ∧ (takeMinute s).store = s.store ∧
    (takeMinute s).free = s.free ∧ (takeMinute s).pending = s.pending := by
  unfold takeMinute; split <;> simp

@[simp] theorem takeHour_frame :
    (takeHour s).clock = s.clock ∧ (takeHour s).sweep = s.sweep ∧
    (takeHour s).schedule = s.schedule ∧ (takeHour s).queue = s.queue ∧ (takeHour s).eqc = s.eqc ∧
    (takeHour s).wac = s.wac ∧ (takeHour s).plant = s.plant ∧ (takeHour s).loop = s.loop ∧
    (takeHour s).demand = s.demand ∧ (takeHour s).ports = s.ports ∧ (takeHour s).log = s.log ∧
    (takeHour s).settings = s.settings ∧ (takeHour s).store = s.store ∧ (takeHour s).free = s.free ∧
    (takeHour s).pending = s.pending := by
  unfold takeHour; split <;> simp

@[simp] theorem takeSettleEnd_frame (i : StringNo) :
    (takeSettleEnd i s).time = s.time ∧ (takeSettleEnd i s).clock = s.clock ∧
    (takeSettleEnd i s).sweep = s.sweep ∧ (takeSettleEnd i s).schedule = s.schedule ∧
    (takeSettleEnd i s).demand = s.demand ∧ (takeSettleEnd i s).settings = s.settings ∧
    (takeSettleEnd i s).store = s.store ∧ (takeSettleEnd i s).pending = s.pending := by
  unfold takeSettleEnd; split <;> simp

@[simp] theorem takeWindowExpiry_frame :
    (takeWindowExpiry s).time = s.time ∧ (takeWindowExpiry s).clock = s.clock ∧
    (takeWindowExpiry s).sweep = s.sweep ∧ (takeWindowExpiry s).schedule = s.schedule ∧
    (takeWindowExpiry s).demand = s.demand ∧ (takeWindowExpiry s).settings = s.settings ∧
    (takeWindowExpiry s).store = s.store ∧ (takeWindowExpiry s).pending = s.pending := by
  unfold takeWindowExpiry; split <;> simp

@[simp] theorem takeSweepMatch_frame :
    (takeSweepMatch s).time = s.time ∧ (takeSweepMatch s).clock = s.clock ∧
    (takeSweepMatch s).strings = s.strings ∧ (takeSweepMatch s).schedule = s.schedule ∧
    (takeSweepMatch s).queue = s.queue ∧ (takeSweepMatch s).eqc = s.eqc ∧
    (takeSweepMatch s).wac = s.wac ∧ (takeSweepMatch s).plant = s.plant ∧
    (takeSweepMatch s).demand = s.demand ∧ (takeSweepMatch s).log = s.log ∧
    (takeSweepMatch s).settings = s.settings ∧ (takeSweepMatch s).store = s.store ∧
    (takeSweepMatch s).free = s.free ∧ (takeSweepMatch s).pending = s.pending := by
  unfold takeSweepMatch; split <;> simp

@[simp] theorem takeScheduleMatch_frame :
    (takeScheduleMatch s).time = s.time ∧ (takeScheduleMatch s).clock = s.clock ∧
    (takeScheduleMatch s).sweep = s.sweep ∧ (takeScheduleMatch s).demand = s.demand ∧
    (takeScheduleMatch s).settings = s.settings ∧ (takeScheduleMatch s).store = s.store ∧
    (takeScheduleMatch s).pending = s.pending := by
  unfold takeScheduleMatch; split <;> simp

@[simp] theorem takePeriodExpiry_frame :
    (takePeriodExpiry s).time = s.time ∧ (takePeriodExpiry s).clock = s.clock ∧
    (takePeriodExpiry s).strings = s.strings ∧ (takePeriodExpiry s).sweep = s.sweep ∧
    (takePeriodExpiry s).schedule = s.schedule ∧ (takePeriodExpiry s).queue = s.queue ∧
    (takePeriodExpiry s).wac = s.wac ∧ (takePeriodExpiry s).plant = s.plant ∧
    (takePeriodExpiry s).demand = s.demand ∧ (takePeriodExpiry s).ports = s.ports ∧
    (takePeriodExpiry s).log = s.log ∧ (takePeriodExpiry s).settings = s.settings ∧
    (takePeriodExpiry s).store = s.store ∧ (takePeriodExpiry s).free = s.free ∧
    (takePeriodExpiry s).pending = s.pending := by
  unfold takePeriodExpiry; repeat' split
  all_goals simp

@[simp] theorem takeStandbyRefresh_frame :
    (takeStandbyRefresh s).time = s.time ∧ (takeStandbyRefresh s).clock = s.clock ∧
    (takeStandbyRefresh s).strings = s.strings ∧ (takeStandbyRefresh s).sweep = s.sweep ∧
    (takeStandbyRefresh s).schedule = s.schedule ∧ (takeStandbyRefresh s).queue = s.queue ∧
    (takeStandbyRefresh s).wac = s.wac ∧ (takeStandbyRefresh s).plant = s.plant ∧
    (takeStandbyRefresh s).demand = s.demand ∧ (takeStandbyRefresh s).ports = s.ports ∧
    (takeStandbyRefresh s).log = s.log ∧ (takeStandbyRefresh s).settings = s.settings ∧
    (takeStandbyRefresh s).store = s.store ∧ (takeStandbyRefresh s).free = s.free ∧
    (takeStandbyRefresh s).pending = s.pending := by
  unfold takeStandbyRefresh; repeat' split
  all_goals simp

@[simp] theorem takePauseExpired_frame :
    (takePauseExpired s).time = s.time ∧ (takePauseExpired s).clock = s.clock ∧
    (takePauseExpired s).sweep = s.sweep ∧ (takePauseExpired s).schedule = s.schedule ∧
    (takePauseExpired s).wac = s.wac ∧ (takePauseExpired s).plant = s.plant ∧
    (takePauseExpired s).demand = s.demand ∧ (takePauseExpired s).settings = s.settings ∧
    (takePauseExpired s).store = s.store ∧ (takePauseExpired s).free = s.free ∧
    (takePauseExpired s).pending = s.pending := by
  unfold takePauseExpired; repeat' split
  all_goals simp

@[simp] theorem takeDosePoll_frame :
    (takeDosePoll s).time = s.time ∧ (takeDosePoll s).clock = s.clock ∧
    (takeDosePoll s).strings = s.strings ∧ (takeDosePoll s).sweep = s.sweep ∧
    (takeDosePoll s).schedule = s.schedule ∧ (takeDosePoll s).queue = s.queue ∧
    (takeDosePoll s).eqc = s.eqc ∧ (takeDosePoll s).plant = s.plant ∧
    (takeDosePoll s).demand = s.demand ∧ (takeDosePoll s).ports = s.ports ∧
    (takeDosePoll s).log = s.log ∧ (takeDosePoll s).settings = s.settings ∧
    (takeDosePoll s).store = s.store ∧ (takeDosePoll s).free = s.free ∧
    (takeDosePoll s).pending = s.pending := by
  unfold takeDosePoll; repeat' split
  all_goals simp

@[simp] theorem takeMaximumDose_frame :
    (takeMaximumDose s).time = s.time ∧ (takeMaximumDose s).clock = s.clock ∧
    (takeMaximumDose s).sweep = s.sweep ∧ (takeMaximumDose s).schedule = s.schedule ∧
    (takeMaximumDose s).eqc = s.eqc ∧ (takeMaximumDose s).plant = s.plant ∧
    (takeMaximumDose s).demand = s.demand ∧ (takeMaximumDose s).settings = s.settings ∧
    (takeMaximumDose s).store = s.store ∧ (takeMaximumDose s).free = s.free ∧
    (takeMaximumDose s).pending = s.pending := by
  unfold takeMaximumDose; repeat' split
  all_goals simp

@[simp] theorem takeReservoirPoll_frame :
    (takeReservoirPoll s).time = s.time ∧ (takeReservoirPoll s).clock = s.clock ∧
    (takeReservoirPoll s).strings = s.strings ∧ (takeReservoirPoll s).sweep = s.sweep ∧
    (takeReservoirPoll s).schedule = s.schedule ∧ (takeReservoirPoll s).queue = s.queue ∧
    (takeReservoirPoll s).eqc = s.eqc ∧ (takeReservoirPoll s).plant = s.plant ∧
    (takeReservoirPoll s).demand = s.demand ∧ (takeReservoirPoll s).ports = s.ports ∧
    (takeReservoirPoll s).log = s.log ∧ (takeReservoirPoll s).settings = s.settings ∧
    (takeReservoirPoll s).store = s.store ∧ (takeReservoirPoll s).free = s.free ∧
    (takeReservoirPoll s).pending = s.pending := by
  unfold takeReservoirPoll; repeat' split
  all_goals simp

@[simp] theorem takeStale_frame :
    (takeStale s).time = s.time ∧ (takeStale s).clock = s.clock ∧ (takeStale s).sweep = s.sweep ∧
    (takeStale s).schedule = s.schedule ∧ (takeStale s).demand = s.demand ∧
    (takeStale s).settings = s.settings ∧ (takeStale s).store = s.store ∧
    (takeStale s).pending = s.pending := by
  unfold takeStale; split <;> simp

@[simp] theorem takeReleaseLimit_frame :
    (takeReleaseLimit s).time = s.time ∧ (takeReleaseLimit s).clock = s.clock ∧
    (takeReleaseLimit s).sweep = s.sweep ∧ (takeReleaseLimit s).schedule = s.schedule ∧
    (takeReleaseLimit s).demand = s.demand ∧ (takeReleaseLimit s).settings = s.settings ∧
    (takeReleaseLimit s).store = s.store ∧ (takeReleaseLimit s).pending = s.pending := by
  unfold takeReleaseLimit; split <;> simp

@[simp] theorem takeWaitEnd_frame (i : StringNo) :
    (takeWaitEnd i s).time = s.time ∧ (takeWaitEnd i s).clock = s.clock ∧
    (takeWaitEnd i s).strings = s.strings ∧ (takeWaitEnd i s).sweep = s.sweep ∧
    (takeWaitEnd i s).schedule = s.schedule ∧ (takeWaitEnd i s).queue = s.queue ∧
    (takeWaitEnd i s).eqc = s.eqc ∧ (takeWaitEnd i s).wac = s.wac ∧
    (takeWaitEnd i s).plant = s.plant ∧ (takeWaitEnd i s).ports = s.ports ∧
    (takeWaitEnd i s).log = s.log ∧ (takeWaitEnd i s).settings = s.settings ∧
    (takeWaitEnd i s).store = s.store ∧ (takeWaitEnd i s).free = s.free ∧
    (takeWaitEnd i s).pending = s.pending := by
  unfold takeWaitEnd; split <;> simp

@[simp] theorem takeDue_frame :
    (takeDue s).clock = s.clock ∧ (takeDue s).settings = s.settings ∧ (takeDue s).store = s.store ∧
    (takeDue s).pending = s.pending := by
  have h1 : ∀ (l : List StringNo) (t : State),
      (fun u : State => (u.clock = t.clock ∧ u.settings = t.settings ∧ u.store = t.store ∧ u.pending = t.pending)) (l.foldl (fun acc i => takeSettleEnd i acc) t) := fun l t =>
    foldl_keeps (P := fun u => (u.clock = t.clock ∧ u.settings = t.settings ∧ u.store = t.store ∧ u.pending = t.pending)) _ (fun u a h => by simpa using h) l t (by simp)
  have h2 : ∀ (l : List StringNo) (t : State),
      (fun u : State => (u.clock = t.clock ∧ u.settings = t.settings ∧ u.store = t.store ∧ u.pending = t.pending)) (l.foldl (fun acc i => takeWaitEnd i acc) t) := fun l t =>
    foldl_keeps (P := fun u => (u.clock = t.clock ∧ u.settings = t.settings ∧ u.store = t.store ∧ u.pending = t.pending)) _ (fun u a h => by simpa using h) l t (by simp)
  simp [takeDue, h1, h2]

@[simp] theorem takeTick_frame :
    (takeTick s).settings = s.settings ∧ (takeTick s).store = s.store ∧
    (takeTick s).pending = s.pending := by
  simp [takeTick, advance]

/-! ### Settings, ports and arrivals (Machine/Store.lean, Requests.lean, Ports.lean) -/

@[simp] theorem lowerLimits_frame (n : Nat) :
    (lowerLimits n s).time = s.time ∧ (lowerLimits n s).clock = s.clock ∧
    (lowerLimits n s).strings = s.strings ∧ (lowerLimits n s).sweep = s.sweep ∧
    (lowerLimits n s).schedule = s.schedule ∧ (lowerLimits n s).eqc = s.eqc ∧
    (lowerLimits n s).plant = s.plant ∧ (lowerLimits n s).loop = s.loop ∧
    (lowerLimits n s).demand = s.demand ∧ (lowerLimits n s).ports = s.ports ∧
    (lowerLimits n s).log = s.log ∧ (lowerLimits n s).settings = s.settings ∧
    (lowerLimits n s).store = s.store ∧ (lowerLimits n s).free = s.free ∧
    (lowerLimits n s).pending = s.pending := by
  simp [lowerLimits]

@[simp] theorem consequences_frame (t : Settings) (x : Setting) :
    (consequences t x s).time = s.time ∧ (consequences t x s).clock = s.clock ∧
    (consequences t x s).strings = s.strings ∧ (consequences t x s).sweep = s.sweep ∧
    (consequences t x s).schedule = s.schedule ∧ (consequences t x s).eqc = s.eqc ∧
    (consequences t x s).plant = s.plant ∧ (consequences t x s).ports = s.ports ∧
    (consequences t x s).log = s.log ∧ (consequences t x s).settings = s.settings ∧
    (consequences t x s).store = s.store ∧ (consequences t x s).free = s.free ∧
    (consequences t x s).pending = s.pending := by
  unfold consequences; repeat' split
  all_goals simp

@[simp] theorem takeWrite_frame (x : Setting) (t : Settings) :
    (takeWrite x t s).time = s.time ∧ (takeWrite x t s).clock = s.clock ∧
    (takeWrite x t s).strings = s.strings ∧ (takeWrite x t s).sweep = s.sweep ∧
    (takeWrite x t s).schedule = s.schedule ∧ (takeWrite x t s).eqc = s.eqc ∧
    (takeWrite x t s).plant = s.plant ∧ (takeWrite x t s).ports = s.ports ∧
    (takeWrite x t s).log = s.log ∧ (takeWrite x t s).free = s.free ∧
    (takeWrite x t s).pending = s.pending := by
  simp [takeWrite]

@[simp] theorem writeSetting_frame (a b : Octet) (v : List Octet) :
    (writeSetting a b v s).1.time = s.time ∧ (writeSetting a b v s).1.clock = s.clock ∧
    (writeSetting a b v s).1.strings = s.strings ∧ (writeSetting a b v s).1.sweep = s.sweep ∧
    (writeSetting a b v s).1.schedule = s.schedule ∧ (writeSetting a b v s).1.eqc = s.eqc ∧
    (writeSetting a b v s).1.plant = s.plant ∧ (writeSetting a b v s).1.ports = s.ports ∧
    (writeSetting a b v s).1.log = s.log ∧ (writeSetting a b v s).1.free = s.free ∧
    (writeSetting a b v s).1.pending = s.pending := by
  unfold writeSetting; repeat' split
  all_goals simp

@[simp] theorem beginStore_frame :
    (beginStore s).time = s.time ∧ (beginStore s).clock = s.clock ∧
    (beginStore s).strings = s.strings ∧ (beginStore s).sweep = s.sweep ∧
    (beginStore s).schedule = s.schedule ∧ (beginStore s).queue = s.queue ∧
    (beginStore s).eqc = s.eqc ∧ (beginStore s).wac = s.wac ∧ (beginStore s).plant = s.plant ∧
    (beginStore s).loop = s.loop ∧ (beginStore s).demand = s.demand ∧
    (beginStore s).ports = s.ports ∧ (beginStore s).log = s.log ∧
    (beginStore s).settings = s.settings ∧ (beginStore s).free = s.free ∧
    (beginStore s).pending = s.pending := by
  simp [beginStore]

@[simp] theorem takeStoreComplete_frame :
    (takeStoreComplete s).time = s.time ∧ (takeStoreComplete s).clock = s.clock ∧
    (takeStoreComplete s).strings = s.strings ∧ (takeStoreComplete s).sweep = s.sweep ∧
    (takeStoreComplete s).schedule = s.schedule ∧ (takeStoreComplete s).queue = s.queue ∧
    (takeStoreComplete s).eqc = s.eqc ∧ (takeStoreComplete s).wac = s.wac ∧
    (takeStoreComplete s).plant = s.plant ∧ (takeStoreComplete s).loop = s.loop ∧
    (takeStoreComplete s).demand = s.demand ∧ (takeStoreComplete s).log = s.log ∧
    (takeStoreComplete s).settings = s.settings ∧ (takeStoreComplete s).free = s.free ∧
    (takeStoreComplete s).pending = s.pending := by
  unfold takeStoreComplete; split <;> simp

@[simp] theorem setRx_frame (p : Port) (x : RxState) :
    (setRx p x s).time = s.time ∧ (setRx p x s).clock = s.clock ∧
    (setRx p x s).strings = s.strings ∧ (setRx p x s).sweep = s.sweep ∧
    (setRx p x s).schedule = s.schedule ∧ (setRx p x s).queue = s.queue ∧
    (setRx p x s).eqc = s.eqc ∧ (setRx p x s).wac = s.wac ∧ (setRx p x s).plant = s.plant ∧
    (setRx p x s).loop = s.loop ∧ (setRx p x s).demand = s.demand ∧ (setRx p x s).log = s.log ∧
    (setRx p x s).settings = s.settings ∧ (setRx p x s).store = s.store ∧
    (setRx p x s).free = s.free ∧ (setRx p x s).pending = s.pending := by
  simp [setRx]

@[simp] theorem endPoll_frame (x : PollRead) :
    (endPoll x s).time = s.time ∧ (endPoll x s).clock = s.clock ∧
    (endPoll x s).schedule = s.schedule ∧ (endPoll x s).settings = s.settings ∧
    (endPoll x s).store = s.store ∧ (endPoll x s).pending = s.pending := by
  simp [endPoll]

@[simp] theorem replyArrives_frame (x : List LineChar) :
    (replyArrives x s).time = s.time ∧ (replyArrives x s).clock = s.clock ∧
    (replyArrives x s).schedule = s.schedule ∧ (replyArrives x s).settings = s.settings ∧
    (replyArrives x s).store = s.store ∧ (replyArrives x s).pending = s.pending := by
  unfold replyArrives; repeat' split
  all_goals simp

@[simp] theorem replyTimedOut_frame :
    (replyTimedOut s).time = s.time ∧ (replyTimedOut s).clock = s.clock ∧
    (replyTimedOut s).schedule = s.schedule ∧ (replyTimedOut s).settings = s.settings ∧
    (replyTimedOut s).store = s.store ∧ (replyTimedOut s).pending = s.pending := by
  unfold replyTimedOut; split <;> simp

@[simp] theorem replyGap_frame :
    (replyGap s).time = s.time ∧ (replyGap s).clock = s.clock ∧ (replyGap s).schedule = s.schedule ∧
    (replyGap s).settings = s.settings ∧ (replyGap s).store = s.store ∧
    (replyGap s).pending = s.pending := by
  unfold replyGap; repeat' split
  all_goals simp

@[simp] theorem pollReturns_frame (x : List LineChar) :
    (pollReturns x s).time = s.time ∧ (pollReturns x s).clock = s.clock ∧
    (pollReturns x s).schedule = s.schedule ∧ (pollReturns x s).settings = s.settings ∧
    (pollReturns x s).store = s.store ∧ (pollReturns x s).pending = s.pending := by
  unfold pollReturns; split <;> simp

@[simp] theorem pollTimedOut_frame :
    (pollTimedOut s).time = s.time ∧ (pollTimedOut s).clock = s.clock ∧
    (pollTimedOut s).schedule = s.schedule ∧ (pollTimedOut s).settings = s.settings ∧
    (pollTimedOut s).store = s.store ∧ (pollTimedOut s).pending = s.pending := by
  unfold pollTimedOut; split <;> simp

@[simp] theorem delayExpires_frame :
    (delayExpires s).time = s.time ∧ (delayExpires s).clock = s.clock ∧
    (delayExpires s).strings = s.strings ∧ (delayExpires s).sweep = s.sweep ∧
    (delayExpires s).schedule = s.schedule ∧ (delayExpires s).queue = s.queue ∧
    (delayExpires s).eqc = s.eqc ∧ (delayExpires s).wac = s.wac ∧ (delayExpires s).plant = s.plant ∧
    (delayExpires s).demand = s.demand ∧ (delayExpires s).ports = s.ports ∧
    (delayExpires s).log = s.log ∧ (delayExpires s).settings = s.settings ∧
    (delayExpires s).store = s.store ∧ (delayExpires s).free = s.free ∧
    (delayExpires s).pending = s.pending := by
  unfold delayExpires; repeat' split
  all_goals simp

@[simp] theorem rawEnds_frame (x : List LineChar) :
    (rawEnds x s).time = s.time ∧ (rawEnds x s).clock = s.clock ∧ (rawEnds x s).sweep = s.sweep ∧
    (rawEnds x s).schedule = s.schedule ∧ (rawEnds x s).demand = s.demand ∧
    (rawEnds x s).settings = s.settings ∧ (rawEnds x s).store = s.store ∧
    (rawEnds x s).pending = s.pending := by
  unfold rawEnds; split <;> simp

@[simp] theorem grantAtBoundary_frame :
    (grantAtBoundary s).time = s.time ∧ (grantAtBoundary s).clock = s.clock ∧
    (grantAtBoundary s).strings = s.strings ∧ (grantAtBoundary s).schedule = s.schedule ∧
    (grantAtBoundary s).queue = s.queue ∧ (grantAtBoundary s).plant = s.plant ∧
    (grantAtBoundary s).log = s.log ∧ (grantAtBoundary s).settings = s.settings ∧
    (grantAtBoundary s).store = s.store ∧ (grantAtBoundary s).free = s.free ∧
    (grantAtBoundary s).pending = s.pending := by
  unfold grantAtBoundary; split <;> simp

@[simp] theorem grantReleaseAtBoundary_frame :
    (grantReleaseAtBoundary s).time = s.time ∧ (grantReleaseAtBoundary s).clock = s.clock ∧
    (grantReleaseAtBoundary s).sweep = s.sweep ∧ (grantReleaseAtBoundary s).schedule = s.schedule ∧
    (grantReleaseAtBoundary s).demand = s.demand ∧
    (grantReleaseAtBoundary s).settings = s.settings ∧ (grantReleaseAtBoundary s).store = s.store ∧
    (grantReleaseAtBoundary s).pending = s.pending := by
  unfold grantReleaseAtBoundary; split <;> simp

@[simp] theorem demandLine_frame (b : Bool) :
    (demandLine b s).time = s.time ∧ (demandLine b s).clock = s.clock ∧
    (demandLine b s).strings = s.strings ∧ (demandLine b s).sweep = s.sweep ∧
    (demandLine b s).schedule = s.schedule ∧ (demandLine b s).queue = s.queue ∧
    (demandLine b s).eqc = s.eqc ∧ (demandLine b s).wac = s.wac ∧ (demandLine b s).plant = s.plant ∧
    (demandLine b s).ports = s.ports ∧ (demandLine b s).log = s.log ∧
    (demandLine b s).settings = s.settings ∧ (demandLine b s).store = s.store ∧
    (demandLine b s).free = s.free ∧ (demandLine b s).pending = s.pending := by
  simp [demandLine]

@[simp] theorem spacingEnds_frame :
    (spacingEnds s).time = s.time ∧ (spacingEnds s).clock = s.clock ∧
    (spacingEnds s).strings = s.strings ∧ (spacingEnds s).sweep = s.sweep ∧
    (spacingEnds s).schedule = s.schedule ∧ (spacingEnds s).queue = s.queue ∧
    (spacingEnds s).eqc = s.eqc ∧ (spacingEnds s).wac = s.wac ∧ (spacingEnds s).plant = s.plant ∧
    (spacingEnds s).ports = s.ports ∧ (spacingEnds s).log = s.log ∧
    (spacingEnds s).settings = s.settings ∧ (spacingEnds s).store = s.store ∧
    (spacingEnds s).free = s.free ∧ (spacingEnds s).pending = s.pending := by
  unfold spacingEnds; split <;> simp

end Sys2Proof.Machine
end

