-- ==== Sys2Proof/Laws/Lines.lean ====
section
/-! SUPPORT. What the lines carry: byte order, clean characters and the frames that a member, a poll or a master
sends, each read back as it was sent. -/

namespace Sys2Proof.Laws

open Sys2Proof.Machine

/-! ### Byte order -/

@[simp] theorem halfOf_octets (h : Half) : halfOf (h.extractLsb' 8 8) (h.extractLsb' 0 8) = h := by
  unfold halfOf
  ext i hi
  simp only [BitVec.getElem_append, BitVec.getElem_extractLsb']
  split
  · simp [BitVec.getLsbD_eq_getElem (show i < 16 from hi)]
  · rw [show 8 + (i - 8) = i by omega, BitVec.getLsbD_eq_getElem (show i < 16 from hi)]

@[simp] theorem quadOf_octets (q : Quad) :
    quadOf (q.extractLsb' 24 8) (q.extractLsb' 16 8) (q.extractLsb' 8 8) (q.extractLsb' 0 8) = q := by
  unfold quadOf
  ext i hi
  simp only [BitVec.getElem_append, BitVec.getElem_extractLsb']
  split
  · simp [BitVec.getLsbD_eq_getElem (show i < 32 from hi)]
  · split
    · rw [show 8 + (i - 8) = i by omega, BitVec.getLsbD_eq_getElem (show i < 32 from hi)]
    · split
      · rw [show 16 + (i - 8 - 8) = i by omega, BitVec.getLsbD_eq_getElem (show i < 32 from hi)]
      · rw [show 24 + (i - 8 - 8 - 8) = i by omega, BitVec.getLsbD_eq_getElem (show i < 32 from hi)]

/-! ### Clean characters (R135) -/

theorem majority_steady (b : Bool) : majority (steady b) = b := by
  cases b <;> decide

@[simp] theorem clean_taken (o : Octet) : (LineChar.clean o).taken = true := by
  simp [LineChar.taken, LineChar.clean, majority_steady]

set_option maxRecDepth 20000 in
/-- Every octet is read back from its own clean character. -/
theorem clean_read : ∀ n : Fin 256,
    (LineChar.clean (BitVec.ofNat 8 n.val)).octet = BitVec.ofNat 8 n.val
      ∧ (LineChar.clean (BitVec.ofNat 8 n.val)).spoiled = false := by
  decide

theorem octet_cases (o : Octet) : ∃ n : Fin 256, o = BitVec.ofNat 8 n.val :=
  ⟨⟨o.toNat, o.isLt⟩, by simp⟩

@[simp] theorem clean_octet (o : Octet) : (LineChar.clean o).octet = o := by
  obtain ⟨n, rfl⟩ := octet_cases o
  exact (clean_read n).1

@[simp] theorem clean_spoiled (o : Octet) : (LineChar.clean o).spoiled = false := by
  obtain ⟨n, rfl⟩ := octet_cases o
  exact (clean_read n).2

@[simp] theorem onLine_octets (l : List Octet) : (onLine l).map LineChar.octet = l := by
  simp [onLine, Function.comp_def]

@[simp] theorem onLine_spoiled (l : List Octet) : (onLine l).any LineChar.spoiled = false := by
  simp [onLine]

@[simp] theorem loopChars_onLine (l : List Octet) : loopChars (onLine l) = onLine l := by
  simp [loopChars, onLine]

@[simp] theorem onLine_isEmpty (l : List Octet) : (onLine l).isEmpty = l.isEmpty := by
  cases l <;> rfl

/-! ### Checks -/

theorem octetSum_from (l : List Octet) (a : Octet) :
    l.foldl (fun acc o => acc + o) a = a + octetSum l := by
  induction l generalizing a with
  | nil => simp [octetSum]
  | cons x l ih =>
    rw [octetSum, List.foldl_cons, List.foldl_cons, ih, ih (0 + x)]
    simp [BitVec.add_assoc]

@[simp] theorem octetSum_cons (x : Octet) (l : List Octet) : octetSum (x :: l) = x + octetSum l := by
  rw [octetSum, List.foldl_cons, octetSum_from]
  simp

@[simp] theorem octetSum_nil : octetSum [] = 0 := rfl

@[simp] theorem octetSum_append (l m : List Octet) : octetSum (l ++ m) = octetSum l + octetSum m := by
  induction l with
  | nil => simp
  | cons x l ih => simp [ih, BitVec.add_assoc]

/-- A frame that ends with its check octet sums to 0. -/
@[simp] theorem octetSum_checked (l : List Octet) : octetSum (l ++ [-octetSum l]) = 0 := by
  simp

/-! ### Frames read back -/

/-- A member's reply in the words of the attempt it answers (R138, Table 10.7). -/
theorem readReply_replyFrame (m : MemberNo) (c : LoopCommand) (status : Octet) (data : List Octet) :
    data.length < 256 → readReply m c (onLine (replyFrame m c status data)) =
      if status = 0 then (if data.length = c.replyLength then .ok data else .spoiled)
      else if status = 1 then .hold
      else if status = 2 then (match data with | [e] => .error e | _ => .spoiled)
      else .spoiled := by
  intro hd
  have hm : m.val % 256 = m.val := Nat.mod_eq_of_lt (by omega)
  have hl : data.length % 256 = data.length := Nat.mod_eq_of_lt hd
  have hs : octetSum (replyFrame m c status data) = 0 := octetSum_checked _
  unfold readReply
  simp only [onLine_spoiled, onLine_octets, hs]
  simp [replyFrame, hm, hl] <;> rfl

/-- A returned poll with an empty word part, or with a word of the tables (R156, Tables 10.7 and 10.8). -/
theorem readPoll_returned (owed : Option (MemberNo × DemandKind)) (a k v1 v2 : Octet) :
    readPoll (onLine (returnedPoll owed [a, k, v1, v2])) =
      if a = 0xFF then .empty
      else if h : a.toNat < 10 then
        match DemandKind.ofCode k with
        | some kind => .word { member := ⟨a.toNat, h⟩, kind := kind, value := halfOf v1 v2 }
        | none => .failed
      else .failed := by
  have hs : octetSum (returnedPoll owed [a, k, v1, v2]) = 0 := by
    rcases owed with _ | ⟨m, d⟩ <;> exact octetSum_checked _
  unfold readPoll
  simp only [onLine_spoiled, onLine_octets, hs]
  rcases owed with _ | ⟨m, d⟩ <;> simp [returnedPoll] <;> rfl

/-- A demand word is read back from a returned poll. -/
theorem readPoll_word (owed : Option (MemberNo × DemandKind)) (w : DemandWord) :
    readPoll (onLine (returnedPoll owed w.octets)) = .word w := by
  obtain ⟨⟨m, hm⟩, k, v⟩ := w
  have h0 : (BitVec.ofNat 8 m : Octet) ≠ 0xFF := by
    intro h
    have := congrArg BitVec.toNat h
    simp at this
    omega
  have h1 : m % 256 = m := Nat.mod_eq_of_lt (by omega)
  rw [DemandWord.octets]
  simp only [octetsOfHalf, List.cons_append, List.nil_append]
  rw [readPoll_returned]
  rw [if_neg h0]
  cases k <;> simp [DemandKind.code, DemandKind.ofCode, h1, hm]

end Sys2Proof.Laws
end

