-- ==== Sys2Proof/Laws/Ops.lean ====
section
/-! SUPPORT. What the shared operations do, each said once: notices, the log, the queue, transactions, and a request
that arrives whole. -/

namespace Sys2Proof.Laws

open Sys2Proof.Machine

/-! ### Notices and the log -/

theorem raise_eq (n : Notice) (s : State) : raise n s = raiseAll n.mask s := rfl

theorem raiseAll_zero (s : State) : raiseAll 0 s = s := by
  simp [raiseAll, PortUnit.addPending]

theorem raiseAll_raiseAll (a b : NoticeSet) (s : State) :
    raiseAll a (raiseAll b s) = raiseAll (b ||| a) s := by
  simp [raiseAll, PortUnit.addPending, BitVec.or_assoc]

theorem set_same (v : Vector Bool 4) (k : Nat) (h : k < 4) : v[k] = true → v.set k true h = v := by
  intro hv
  ext i hi
  rw [Vector.getElem_set]
  split
  · rename_i hk
    subst hk
    exact hv.symm
  · rfl

/-- One log write, said once (R171, R172). -/
theorem logWrite_eq (r : LogRecord) (s : State) :
    logWrite r s = raiseAll (noticesOfWrite s.log) { s with log := logAfter r s.log } := by
  have hseg (p : Fin 64) : segmentOf p = ⟨p.val / 16, by omega⟩ := rfl
  by_cases hf : s.log.full[segmentOf s.log.position] = true <;>
  by_cases ho : s.log.overrun[segmentOf s.log.position] = true <;>
  by_cases hi : s.log.position.val % 16 = 15 <;>
  simp_all [logWrite, noteOverrun, placeRecord, noteFull, raise, raiseAll, noticesOfWrite, logAfter, indexOf,
    PortUnit.addPending, BitVec.or_assoc, set_same]

/-! ### The queue -/

theorem cancelEntry_queue (c : Cause) (e : QueueEntry) (s : State) :
    (cancelEntry c e s).queue = s.queue.filter fun x => !x.same e.kind e.string := by
  simp [cancelEntry, dropEntry, logWrite_eq, raiseAll]

theorem foldl_cancel_queue (c : Cause) (l : List QueueEntry) (s : State) :
    (l.foldl (fun acc e => cancelEntry c e acc) s).queue =
      s.queue.filter fun x => l.all fun e => !x.same e.kind e.string := by
  induction l generalizing s with
  | nil => simp
  | cons e l ih =>
    rw [List.foldl_cons, ih, cancelEntry_queue, List.filter_filter]
    congr 1
    funext x
    simp [Bool.and_comm]

/-- A bar leaves exactly the entries that name another string (R51). -/
theorem removeBarred_queue (i : StringNo) (s : State) :
    (removeBarred i s).queue = s.queue.filter fun x => decide (x.string ≠ i) := by
  rw [removeBarred, foldl_cancel_queue]
  apply List.filter_congr
  intro x hx
  by_cases h : x.string = i
  · simp only [h, ne_eq, not_true_eq_false, decide_false]
    rw [List.all_eq_false]
    refine ⟨x, ?_, by simp [QueueEntry.same]⟩
    rw [List.mem_filter]
    refine ⟨?_, by simp [h]⟩
    rw [queueOrder, List.mem_append, List.mem_filter, List.mem_filter]
    cases hu : x.urgent <;> simp [hx]
  · simp only [h, ne_eq, not_false_eq_true, decide_true]
    rw [List.all_eq_true]
    intro e he
    rw [List.mem_filter] at he
    have := he.2
    have hne : ¬ x.string = e.string := fun h' => h (by rw [h']; simpa using this)
    simp [QueueEntry.same, hne]

theorem logWrite_queue (r : LogRecord) (s : State) : (logWrite r s).queue = s.queue := by
  simp [logWrite_eq, raiseAll]

/-! ### Requests -/

/-- Every request is decoded from its own code and parameters (R165, Table 10.10). -/
theorem ofParams_params (r : Request) :
    (∀ m c d, r = .loopTransaction m c d → d.length < 256) → Request.ofParams r.code r.params = some r := by
  intro h
  cases r with
  | plantStatus s v l x =>
    calc Request.ofParams 0x01 (s :: _) = some (.plantStatus s (quadOf _ _ _ _) (quadOf _ _ _ _) (quadOf _ _ _ _)) :=
          rfl
      _ = _ := by rw [quadOf_octets, quadOf_octets, quadOf_octets]
  | openWindow b m =>
    calc Request.ofParams 0x04 _ = some (.openWindow (halfOf _ _) (halfOf _ _)) := rfl
      _ = _ := by rw [halfOf_octets, halfOf_octets]
  | ackNotices m =>
    calc Request.ofParams 0x0A _ = some (.ackNotices (halfOf _ _)) := rfl
      _ = _ := by rw [halfOf_octets]
  | setNoticeEnables m =>
    calc Request.ofParams 0x0B _ = some (.setNoticeEnables (halfOf _ _)) := rfl
      _ = _ := by rw [halfOf_octets]
  | requestRound k s u x rc d =>
    calc Request.ofParams 0x0E _ = some (.requestRound k s u x rc (halfOf _ _)) := rfl
      _ = _ := by rw [halfOf_octets]
  | setClock q =>
    calc Request.ofParams 0x1D _ = some (.setClock (quadOf _ _ _ _)) := rfl
      _ = _ := by rw [quadOf_octets]
  | loopTransaction m c d =>
    have hd := h m c d rfl
    have hn : d.length = (BitVec.ofNat 8 d.length).toNat := by simp [Nat.mod_eq_of_lt hd]
    calc Request.ofParams 0x0C (m :: c :: BitVec.ofNat 8 d.length :: d) =
          (if d.length = (BitVec.ofNat 8 d.length).toNat then some (.loopTransaction m c d) else none) := rfl
      _ = _ := if_pos hn
  | _ => rfl

/-- A request that fits a frame, taken in HUNT (R164, R165). -/
theorem arrive_hunt (p : Port) (tag : Octet) (r : Request) (s : State) :
    rxOf s p = .hunt → r.params.length ≤ 62 → arrive p tag r s = serve p tag r s := by
  intro h hl
  have : fitsFrame r = true := by simp [fitsFrame]; omega
  simp [arrive, h, this]

/-- Discarded in REPLY OWED and RESYNC (R164). -/
theorem arrive_resync (p : Port) (tag : Octet) (r : Request) (s : State) :
    rxOf s p = .resync → arrive p tag r s = s := by
  intro h
  simp [arrive, h]

theorem arrive_owed (p : Port) (tag : Octet) (r : Request) (x : Reply) (s : State) :
    rxOf s p = .replyOwed x → arrive p tag r s = s := by
  intro h
  simp [arrive, h]

/-- The reply a served request owes, in the words of the statements. -/
theorem serve_eq (p : Port) (tag : Octet) (r : Request) (s : State) :
    serve p tag r s = owing p r.code tag (answer p r s).status (answer p r s).results (answer p r s).state := rfl

theorem answer_notPermitted (p : Port) (r : Request) (s : State) :
    permitted p r.code = false → answer p r s = refuse .notPermitted s := by
  intro h
  simp [answer, h]

/-! ### Transactions -/

theorem failAttempt_retry (t : Transaction) (o : TxOutcome) (s : State) :
    t.retries < 2 → failAttempt t o s =
      putTransaction { t with retries := t.retries + 1, wait := firstWait t.cls } s := by
  intro h
  simp [failAttempt, retryAfter, Config.retries, h]

theorem failAttempt_last (t : Transaction) (o : TxOutcome) (s : State) :
    2 ≤ t.retries → failAttempt t o s = endTransaction t o s := by
  intro h
  have : ¬ t.retries < 2 := by omega
  simp [failAttempt, retryAfter, Config.retries, this]

/-- The entry of an ended check is the queue's entry of its string, and the one the check was begun for (R105). -/
theorem checkedEntry_eq_some (i : StringNo) (s : State) (e : QueueEntry) :
    checkedEntry i s = some e ↔ findEntry .water i s.queue = some e ∧ e.checked := by
  simp [checkedEntry, Option.filter_eq_some_iff]

/-- A step that leaves the same exchange in flight sends nothing, short of a reset (R135). -/
theorem loopSends_same (c : Instr) (s t : State) (hr : takesReset c s = false)
    (h : t.loop.inFlight = s.loop.inFlight) : loopSends c s t = [] := by
  unfold loopSends
  rw [h, hr]
  cases hx : s.loop.inFlight with
  | none => rfl
  | some x => cases x <;> simp [InFlight.sentAfter]

theorem grantAtBoundary_busy (s : State) :
    s.loop.inFlight.isSome → grantAtBoundary s = s := by
  intro h
  cases hx : s.loop.inFlight <;> simp_all [grantAtBoundary, arbiterOpen]

end Sys2Proof.Laws
end

