-- ==== Sys2Proof/WellFormed.lean ====
section
/-! DEFINITION. Which commands can stand on the part's lines at all: the octets of a request must fit the
body of a frame (length 2 to 64, Table 10.5), and a frame that arrives whole holds at least one character. The
meanings are total: a command that is not well formed has a meaning too (R164's bad length). -/

namespace Sys2Proof

/-- The most octets of parameters that a request frame can carry (Table 10.5: 64 less code and tag). -/
def paramsTop : Nat := 62

/-- The command can stand on the part's lines. -/
def Instr.WellFormed : Instr → Bool
  | .loopTransaction _ _ _ _ data => data.length + 3 ≤ paramsTop
  | .loopRaw _ _ octets => octets.length ≤ paramsTop
  | .writeSetting _ _ _ _ value => value.length + 2 ≤ paramsTop
  | .loopReply chars => !chars.isEmpty
  | .demandPollReturn chars => !chars.isEmpty
  | .badFrame _ chars => !chars.isEmpty
  | .powerOn _ | .pinReset _ | .siteTick | .siteHour | .siteMinute | .settleEnd _ | .windowExpiry
  | .sweepMatch | .scheduleMatch | .periodExpiry | .standbyRefresh | .pauseExpired | .dosePoll
  | .maximumDoseTime | .reservoirPoll | .stale | .releaseLimit | .pollSpacingEnd
  | .reconfigurationWaitEnd _ | .storeComplete | .demandLineAsserted _ | .loopGrant | .releaseGrant
  | .fixedDelay | .replyTimeout | .loopReplyGap | .pollReturnTimeout | .rawCollectionEnd _
  | .frameGapTimeout _ | .resyncIdle _ | .replySent _ _ | .plantStatus _ _ _ _ _ _
  | .holdMaintenance _ _ | .releaseHold _ _ | .openWindow _ _ _ _ | .closeWindow _ _
  | .readForecast _ _ | .readString _ _ _ | .readRoundsQueue _ _ | .readRoundsEqualise _ _
  | .readRoundsWater _ _ | .readRoundsSite _ _ | .readRoundsLoop _ _ | .readRoundsDemand _ _
  | .readNotices _ _ | .ackNotices _ _ _ | .setNoticeEnables _ _ _ | .loopResult _ _
  | .requestRound _ _ _ _ _ _ _ _ | .cancelRound _ _ _ _ | .barString _ _ _ | .unbarString _ _ _
  | .clearChannelEqualise _ _ | .clearChannelWater _ _ | .takeLoop _ _ | .giveLoop _ _
  | .readDemands _ _ | .clearOverflow _ _ | .readLogRecord _ _ _ _ | .releaseSegment _ _ _
  | .readSetting _ _ _ _ | .storeSettings _ _ | .setClock _ _ _ | .restart _ _
  | .characterReceived _ _ => true

end Sys2Proof
end

