-- ==== Sys2Proof/Laws/PerInstr.lean ====
section
/-! SUPPORT. One family of statements made command by command: a well-formed request fits the body of a frame, its code
is one of Table 10.3, and it is decoded from its own octets (Tables 10.5 and 10.10). -/

namespace Sys2Proof.Laws.Requests

open Sys2Proof.Machine

/-- The request a command carries; an event carries none. -/
def request : Instr → Option Request
  | .powerOn _ => none
  | .pinReset _ => none
  | .siteTick => none
  | .siteHour => none
  | .siteMinute => none
  | .settleEnd _ => none
  | .windowExpiry => none
  | .sweepMatch => none
  | .scheduleMatch => none
  | .periodExpiry => none
  | .standbyRefresh => none
  | .pauseExpired => none
  | .dosePoll => none
  | .maximumDoseTime => none
  | .reservoirPoll => none
  | .stale => none
  | .releaseLimit => none
  | .pollSpacingEnd => none
  | .reconfigurationWaitEnd _ => none
  | .storeComplete => none
  | .demandLineAsserted _ => none
  | .loopGrant => none
  | .releaseGrant => none
  | .fixedDelay => none
  | .loopReply _ => none
  | .replyTimeout => none
  | .loopReplyGap => none
  | .demandPollReturn _ => none
  | .pollReturnTimeout => none
  | .rawCollectionEnd _ => none
  | .frameGapTimeout _ => none
  | .resyncIdle _ => none
  | .badFrame _ _ => none
  | .replySent _ _ => none
  | .plantStatus _ _ supply busVoltage load headroom => some (.plantStatus supply busVoltage load headroom)
  | .holdMaintenance _ _ => some (.holdMaintenance)
  | .releaseHold _ _ => some (.releaseHold)
  | .openWindow _ _ budget minutes => some (.openWindow budget minutes)
  | .closeWindow _ _ => some (.closeWindow)
  | .readForecast _ _ => some (.readForecast)
  | .readString _ _ string => some (.readString string)
  | .readRoundsQueue _ _ => some (.readRounds 0)
  | .readRoundsEqualise _ _ => some (.readRounds 1)
  | .readRoundsWater _ _ => some (.readRounds 2)
  | .readRoundsSite _ _ => some (.readRounds 3)
  | .readRoundsLoop _ _ => some (.readRounds 4)
  | .readRoundsDemand _ _ => some (.readRounds 5)
  | .readNotices _ _ => some (.readNotices)
  | .ackNotices _ _ mask => some (.ackNotices mask)
  | .setNoticeEnables _ _ mask => some (.setNoticeEnables mask)
  | .loopTransaction _ _ member command data => some (.loopTransaction member command data)
  | .loopResult _ _ => some (.loopResult)
  | .requestRound _ _ kind string urgency presence recipe dose =>
    some (.requestRound kind string urgency presence recipe dose)
  | .cancelRound _ _ kind string => some (.cancelRound kind string)
  | .barString _ _ string => some (.barString string)
  | .unbarString _ _ string => some (.unbarString string)
  | .clearChannelEqualise _ _ => some (.clearChannel 0)
  | .clearChannelWater _ _ => some (.clearChannel 1)
  | .takeLoop _ _ => some (.takeLoop)
  | .giveLoop _ _ => some (.giveLoop)
  | .loopRaw _ _ octets => some (.loopRaw octets)
  | .readDemands _ _ => some (.readDemands)
  | .clearOverflow _ _ => some (.clearOverflow)
  | .readLogRecord _ _ segment index => some (.readLogRecord segment index)
  | .releaseSegment _ _ segment => some (.releaseSegment segment)
  | .writeSetting _ _ identifier index value => some (.writeSetting identifier index value)
  | .readSetting _ _ identifier index => some (.readSetting identifier index)
  | .storeSettings _ _ => some (.storeSettings)
  | .setClock _ _ seconds => some (.setClock seconds)
  | .restart _ _ => some (.restart)
  | .characterReceived _ _ => none

/-- A well-formed request fits a frame and is read back from it. -/
def Statement (i : Instr) : Prop :=
  i.WellFormed = true → ∀ r, request i = some r →
    r.params.length ≤ paramsTop ∧ knownCode r.code = true ∧ Request.ofParams r.code r.params = some r

theorem of_none {i : Instr} (h : request i = none) : Statement i := by
  intro _ r hr
  rw [h] at hr
  cases hr

theorem of_some {i : Instr} {x : Request} (h : request i = some x) :
    (i.WellFormed = true → x.params.length ≤ paramsTop) → knownCode x.code = true →
    (∀ m c d, x = .loopTransaction m c d → d.length + 3 ≤ x.params.length) → Statement i := by
  intro hl hc hd hw r hr
  rw [h] at hr
  cases hr
  refine ⟨hl hw, hc, ofParams_params _ ?_⟩
  intro m c d he
  have h1 := hd m c d he
  have h2 := hl hw
  simp only [paramsTop] at h2
  omega

theorem powerOn (straps : Straps) : Statement (.powerOn straps) :=
  of_none rfl

theorem pinReset (straps : Straps) : Statement (.pinReset straps) :=
  of_none rfl

theorem siteTick : Statement .siteTick :=
  of_none rfl

theorem siteHour : Statement .siteHour :=
  of_none rfl

theorem siteMinute : Statement .siteMinute :=
  of_none rfl

theorem settleEnd (string : StringNo) : Statement (.settleEnd string) :=
  of_none rfl

theorem windowExpiry : Statement .windowExpiry :=
  of_none rfl

theorem sweepMatch : Statement .sweepMatch :=
  of_none rfl

theorem scheduleMatch : Statement .scheduleMatch :=
  of_none rfl

theorem periodExpiry : Statement .periodExpiry :=
  of_none rfl

theorem standbyRefresh : Statement .standbyRefresh :=
  of_none rfl

theorem pauseExpired : Statement .pauseExpired :=
  of_none rfl

theorem dosePoll : Statement .dosePoll :=
  of_none rfl

theorem maximumDoseTime : Statement .maximumDoseTime :=
  of_none rfl

theorem reservoirPoll : Statement .reservoirPoll :=
  of_none rfl

theorem stale : Statement .stale :=
  of_none rfl

theorem releaseLimit : Statement .releaseLimit :=
  of_none rfl

theorem pollSpacingEnd : Statement .pollSpacingEnd :=
  of_none rfl

theorem reconfigurationWaitEnd (node : StringNo) : Statement (.reconfigurationWaitEnd node) :=
  of_none rfl

theorem storeComplete : Statement .storeComplete :=
  of_none rfl

theorem demandLineAsserted (level : Bool) : Statement (.demandLineAsserted level) :=
  of_none rfl

theorem loopGrant : Statement .loopGrant :=
  of_none rfl

theorem releaseGrant : Statement .releaseGrant :=
  of_none rfl

theorem fixedDelay : Statement .fixedDelay :=
  of_none rfl

theorem loopReply (chars : List LineChar) : Statement (.loopReply chars) :=
  of_none rfl

theorem replyTimeout : Statement .replyTimeout :=
  of_none rfl

theorem loopReplyGap : Statement .loopReplyGap :=
  of_none rfl

theorem demandPollReturn (chars : List LineChar) : Statement (.demandPollReturn chars) :=
  of_none rfl

theorem pollReturnTimeout : Statement .pollReturnTimeout :=
  of_none rfl

theorem rawCollectionEnd (chars : List LineChar) : Statement (.rawCollectionEnd chars) :=
  of_none rfl

theorem frameGapTimeout (p : Port) : Statement (.frameGapTimeout p) :=
  of_none rfl

theorem resyncIdle (p : Port) : Statement (.resyncIdle p) :=
  of_none rfl

theorem badFrame (p : Port) (chars : List LineChar) : Statement (.badFrame p chars) :=
  of_none rfl

theorem replySent (p : Port) (straps : Straps) : Statement (.replySent p straps) :=
  of_none rfl

theorem plantStatus (p : Port) (tag supply : Octet) (busVoltage load headroom : Quad) :
    Statement (.plantStatus p tag supply busVoltage load headroom) :=
  of_some rfl (fun _ => Nat.le_of_ble_eq_true rfl) rfl (fun _ _ _ he => by cases he)

theorem holdMaintenance (p : Port) (tag : Octet) : Statement (.holdMaintenance p tag) :=
  of_some rfl (fun _ => Nat.le_of_ble_eq_true rfl) rfl (fun _ _ _ he => by cases he)

theorem releaseHold (p : Port) (tag : Octet) : Statement (.releaseHold p tag) :=
  of_some rfl (fun _ => Nat.le_of_ble_eq_true rfl) rfl (fun _ _ _ he => by cases he)

theorem openWindow (p : Port) (tag : Octet) (budget minutes : Half) :
    Statement (.openWindow p tag budget minutes) :=
  of_some rfl (fun _ => Nat.le_of_ble_eq_true rfl) rfl (fun _ _ _ he => by cases he)

theorem closeWindow (p : Port) (tag : Octet) : Statement (.closeWindow p tag) :=
  of_some rfl (fun _ => Nat.le_of_ble_eq_true rfl) rfl (fun _ _ _ he => by cases he)

theorem readForecast (p : Port) (tag : Octet) : Statement (.readForecast p tag) :=
  of_some rfl (fun _ => Nat.le_of_ble_eq_true rfl) rfl (fun _ _ _ he => by cases he)

theorem readString (p : Port) (tag string : Octet) : Statement (.readString p tag string) :=
  of_some rfl (fun _ => Nat.le_of_ble_eq_true rfl) rfl (fun _ _ _ he => by cases he)

theorem readRoundsQueue (p : Port) (tag : Octet) : Statement (.readRoundsQueue p tag) :=
  of_some rfl (fun _ => Nat.le_of_ble_eq_true rfl) rfl (fun _ _ _ he => by cases he)

theorem readRoundsEqualise (p : Port) (tag : Octet) : Statement (.readRoundsEqualise p tag) :=
  of_some rfl (fun _ => Nat.le_of_ble_eq_true rfl) rfl (fun _ _ _ he => by cases he)

theorem readRoundsWater (p : Port) (tag : Octet) : Statement (.readRoundsWater p tag) :=
  of_some rfl (fun _ => Nat.le_of_ble_eq_true rfl) rfl (fun _ _ _ he => by cases he)

theorem readRoundsSite (p : Port) (tag : Octet) : Statement (.readRoundsSite p tag) :=
  of_some rfl (fun _ => Nat.le_of_ble_eq_true rfl) rfl (fun _ _ _ he => by cases he)

theorem readRoundsLoop (p : Port) (tag : Octet) : Statement (.readRoundsLoop p tag) :=
  of_some rfl (fun _ => Nat.le_of_ble_eq_true rfl) rfl (fun _ _ _ he => by cases he)

theorem readRoundsDemand (p : Port) (tag : Octet) : Statement (.readRoundsDemand p tag) :=
  of_some rfl (fun _ => Nat.le_of_ble_eq_true rfl) rfl (fun _ _ _ he => by cases he)

theorem readNotices (p : Port) (tag : Octet) : Statement (.readNotices p tag) :=
  of_some rfl (fun _ => Nat.le_of_ble_eq_true rfl) rfl (fun _ _ _ he => by cases he)

theorem ackNotices (p : Port) (tag : Octet) (mask : Half) : Statement (.ackNotices p tag mask) :=
  of_some rfl (fun _ => Nat.le_of_ble_eq_true rfl) rfl (fun _ _ _ he => by cases he)

theorem setNoticeEnables (p : Port) (tag : Octet) (mask : Half) : Statement (.setNoticeEnables p tag mask) :=
  of_some rfl (fun _ => Nat.le_of_ble_eq_true rfl) rfl (fun _ _ _ he => by cases he)

theorem loopTransaction (p : Port) (tag member command : Octet) (data : List Octet) :
    Statement (.loopTransaction p tag member command data) :=
  of_some rfl (fun h => by simpa [Request.params, Instr.WellFormed, Nat.succ_le_iff] using h) rfl (fun _ _ _ he => by
    cases he; simp [Request.params])

theorem loopResult (p : Port) (tag : Octet) : Statement (.loopResult p tag) :=
  of_some rfl (fun _ => Nat.le_of_ble_eq_true rfl) rfl (fun _ _ _ he => by cases he)

theorem requestRound (p : Port) (tag kind string urgency presence recipe : Octet) (dose : Half) :
    Statement (.requestRound p tag kind string urgency presence recipe dose) :=
  of_some rfl (fun _ => Nat.le_of_ble_eq_true rfl) rfl (fun _ _ _ he => by cases he)

theorem cancelRound (p : Port) (tag kind string : Octet) : Statement (.cancelRound p tag kind string) :=
  of_some rfl (fun _ => Nat.le_of_ble_eq_true rfl) rfl (fun _ _ _ he => by cases he)

theorem barString (p : Port) (tag string : Octet) : Statement (.barString p tag string) :=
  of_some rfl (fun _ => Nat.le_of_ble_eq_true rfl) rfl (fun _ _ _ he => by cases he)

theorem unbarString (p : Port) (tag string : Octet) : Statement (.unbarString p tag string) :=
  of_some rfl (fun _ => Nat.le_of_ble_eq_true rfl) rfl (fun _ _ _ he => by cases he)

theorem clearChannelEqualise (p : Port) (tag : Octet) : Statement (.clearChannelEqualise p tag) :=
  of_some rfl (fun _ => Nat.le_of_ble_eq_true rfl) rfl (fun _ _ _ he => by cases he)

theorem clearChannelWater (p : Port) (tag : Octet) : Statement (.clearChannelWater p tag) :=
  of_some rfl (fun _ => Nat.le_of_ble_eq_true rfl) rfl (fun _ _ _ he => by cases he)

theorem takeLoop (p : Port) (tag : Octet) : Statement (.takeLoop p tag) :=
  of_some rfl (fun _ => Nat.le_of_ble_eq_true rfl) rfl (fun _ _ _ he => by cases he)

theorem giveLoop (p : Port) (tag : Octet) : Statement (.giveLoop p tag) :=
  of_some rfl (fun _ => Nat.le_of_ble_eq_true rfl) rfl (fun _ _ _ he => by cases he)

theorem loopRaw (p : Port) (tag : Octet) (octets : List Octet) : Statement (.loopRaw p tag octets) :=
  of_some rfl (fun h => by simpa [Request.params, Instr.WellFormed] using h) rfl (fun _ _ _ he => by cases he)

theorem readDemands (p : Port) (tag : Octet) : Statement (.readDemands p tag) :=
  of_some rfl (fun _ => Nat.le_of_ble_eq_true rfl) rfl (fun _ _ _ he => by cases he)

theorem clearOverflow (p : Port) (tag : Octet) : Statement (.clearOverflow p tag) :=
  of_some rfl (fun _ => Nat.le_of_ble_eq_true rfl) rfl (fun _ _ _ he => by cases he)

theorem readLogRecord (p : Port) (tag segment index : Octet) : Statement (.readLogRecord p tag segment index) :=
  of_some rfl (fun _ => Nat.le_of_ble_eq_true rfl) rfl (fun _ _ _ he => by cases he)

theorem releaseSegment (p : Port) (tag segment : Octet) : Statement (.releaseSegment p tag segment) :=
  of_some rfl (fun _ => Nat.le_of_ble_eq_true rfl) rfl (fun _ _ _ he => by cases he)

theorem writeSetting (p : Port) (tag identifier index : Octet) (value : List Octet) :
    Statement (.writeSetting p tag identifier index value) :=
  of_some rfl (fun h => by simpa [Request.params, Instr.WellFormed, Nat.succ_le_iff] using h) rfl (fun _ _ _ he => by cases he)

theorem readSetting (p : Port) (tag identifier index : Octet) : Statement (.readSetting p tag identifier index) :=
  of_some rfl (fun _ => Nat.le_of_ble_eq_true rfl) rfl (fun _ _ _ he => by cases he)

theorem storeSettings (p : Port) (tag : Octet) : Statement (.storeSettings p tag) :=
  of_some rfl (fun _ => Nat.le_of_ble_eq_true rfl) rfl (fun _ _ _ he => by cases he)

theorem setClock (p : Port) (tag : Octet) (seconds : Quad) : Statement (.setClock p tag seconds) :=
  of_some rfl (fun _ => Nat.le_of_ble_eq_true rfl) rfl (fun _ _ _ he => by cases he)

theorem restart (p : Port) (tag : Octet) : Statement (.restart p tag) :=
  of_some rfl (fun _ => Nat.le_of_ble_eq_true rfl) rfl (fun _ _ _ he => by cases he)

theorem characterReceived (p : Port) (char : LineChar) : Statement (.characterReceived p char) :=
  of_none rfl

end Sys2Proof.Laws.Requests
end

