-- ==== Sys2Proof/Tests/Slice0.lean ====
section
/-! SUPPORT. Tests: the ill-formed commands, single steps with the figures of the manual's worked sequences, and one
witness for every statement that has hypotheses. -/

open Sys2Proof Sys2Proof.Machine

namespace Sys2Proof.Tests

set_option Elab.async false

/-! ### States the tests start from -/

/-- The state a command leaves. -/
def after (c : Instr) (s : State) : State :=
  match exec c s with
  | .next t => t
  | .fault _ | .refused _ => s

/-- The reply a command leaves owed at a port. -/
def replyAt (p : Port) (c : Instr) (s : State) : Option (Status × List Octet) :=
  match rxOf (after c s) p with
  | .replyOwed r => some (r.status, r.results)
  | _ => none

def low : Straps where
  plant := { rs1 := false, rs0 := false }
  energy := { rs1 := false, rs0 := false }
  service := { rs1 := false, rs0 := false }

/-- A site at work: all strings installed and in FLOAT, the window OPEN with 1200 W, the plant in RUN with a headroom
of 40.0 A, the loop free. -/
def idle : State :=
  { State.reset with
    settings := { Settings.factory with installed := Vector.replicate 8 true }
    strings := Vector.replicate 8
      { StringRecord.powerOn with voltage := 53950, temperature := 385, age := 12 }
    plant :=
      { windowOpen := true, budget := 1200, remaining := 90
        report := some { discharge := false, busVoltage := 54000, load := 100, headroom := 400 }
        age := 10, hold := false, stale := false, aged := false, staleDue := false
        windowNeeded := false }
    loop := { State.reset.loop with inFlight := none, release := .free } }

def withRecord (i : StringNo) (f : StringRecord → StringRecord) (s : State) : State := modString i f s

/-- A round on string 6 with recipe 0 at its defaults, its period timer run down. -/
def round6 : Round where
  number := 420
  string := 6
  recipeNo := 0
  recipe := Recipe.factory
  origin := .schedule
  start := none
  ticks := 600
  pauses := PauseSet.none
  pauseOwed := false
  pause := none
  timer := { count := 10, length := 10, running := true }
  raiseElapsed := 600
  holdElapsed := 0
  failures := 0
  outcome := none
  faultAtEnd := false
  acct := { Accounting.fresh with held := some { target := 57840, perm := 196 } }

/-- The round `r` under way on string 6, with the channel in `st`. -/
def driving (st : EqcState) (r : Round) : State :=
  withRecord 6 (fun x => { x with state := .equalise none })
    { idle with eqc := { state := st, round := some r, attachment := .names 6 true, clear := false } }

/-- The dose of 6.10.1 on string 3, its poll timer run down. -/
def dose3 : Dose where
  number := 421
  string := 3
  limit := 717
  origin := .followOn
  start := none
  ticks := 60
  delivered := 409
  lastChange := some 36
  elapsed := some 56
  pumpOnSent := true
  flowActive := some true
  outcome := none
  faultAtEnd := false
  pollTimer := some 2
  maxReached := false

/-- The dose `d` under way on string 3, with the channel in `st`, valve 3 held open and the pump on. -/
def dosing (st : WacState) (d : Dose) : State :=
  withRecord 3 (fun x => { x with state := .water none })
    { idle with wac := { Wac.reset with
      state := st, dose := some d, valve := .names 3 true, pump := .onConfirmed } }

/-- A transaction in flight that awaits its reply. -/
def flight (who : Claimant) (m : MemberNo) (c : LoopCommand) : Transaction where
  claimant := who
  member := m
  command := c
  cls := ClassEntry.factory m
  holds := 0
  retries := 0
  wait := .reply

def sending (t : Transaction) (s : State) : State :=
  { s with loop := { s.loop with inFlight := some (.transaction t) } }

/-- The awaited reply with status OK and these data. -/
def answered (t : Transaction) (data : List Octet) : Instr :=
  .loopReply (onLine (replyFrame t.member t.command 0 data))

/-- An entry with origin REQUEST. -/
def entry (w : Work) (i : StringNo) (u : Urgency) : QueueEntry where
  work := w
  string := i
  urgency := u
  origin := .request

def waiting (q : List QueueEntry) (s : State) : State := { s with queue := q }

def released (s : State) : State := { s with loop := { s.loop with release := .released false, releaseTimer := 10 } }

def withRx (p : Port) (x : RxState) (s : State) : State := setRx p x s

/-! ### Well-formedness: each check refuses an ill-formed command -/

theorem test_wellFormed_longTransaction :
    (Instr.loopTransaction .service 1 0 1 (List.replicate 60 0)).WellFormed = false := by decide

theorem test_wellFormed_longRaw :
    (Instr.loopRaw .service 1 (List.replicate 63 0)).WellFormed = false := by decide

theorem test_wellFormed_longValue :
    (Instr.writeSetting .service 1 1 0 (List.replicate 61 0)).WellFormed = false := by decide

theorem test_wellFormed_emptyReply : (Instr.loopReply []).WellFormed = false := by decide

theorem test_wellFormed_emptyReturn : (Instr.demandPollReturn []).WellFormed = false := by decide

theorem test_wellFormed_emptyFrame : (Instr.badFrame .plant []).WellFormed = false := by decide

theorem test_wellFormed_request :
    (Instr.writeSetting .service 1 1 0 (List.replicate 60 0)).WellFormed = true := by decide

/-! ### Resets -/

/-- A power-on with all straps low is the state after reset. -/
theorem test_powerOn_is_reset :
    after (.powerOn low) (waiting [entry (.water 50) 1 .urgent] idle) = State.reset := by decide +kernel

theorem test_powerOn_baudOfStraps :
    ((after (.powerOn { low with energy := { rs1 := false, rs0 := true } }) idle).ports.energy.rate) = .b19200 := by
  decide +kernel

/-- Table 1.5: a pin reset keeps a bar. -/
theorem test_pinReset_keepsBar : (recordOf (after (.pinReset low)
    (withRecord 2 (fun x => { x with state := .barred .nodeLost }) idle)) 2).state = .barred .nodeLost := by
  decide +kernel

/-- 11.5: the RESTART record stands at the write position and the overrun set is kept. -/
theorem test_restartRecord :
    let s := { idle with log := { idle.log with position := 33, overrun := #v[false, false, true, false] } }
    let t := after (.pinReset low) s
    (t.log.places[33]).map (fun r => (r.kind, r.cause)) = some (.restart, some .pinRestart)
      ∧ t.log.position = 34 ∧ t.log.overrun = s.log.overrun := by decide +kernel

/-! ### Charge accounting: the worked cases of 5.11 -/

/-- 5.11.1: the site of the worked period, the pump running. -/
def pumping : State := { driving .raise round6 with wac := { Wac.reset with pump := .onConfirmed } }

theorem test_5_11_1_setpoint : setpointAt pumping round6 54900 = { target := 57840, perm := 196 } := by
  decide +kernel

theorem test_5_11_1_period :
    let a := (answeredPeriod pumping round6 .raise { vs := 54900, is := 194 })
    a.1.charge = 1940 ∧ a.1.overcharge = 0 ∧ a.1.energy = 106506000 ∧ a.1.peak = some 385
      ∧ a.2 = .continue := by decide +kernel

/-- 5.11.2 A: stale and hot. -/
theorem test_5_11_2_A :
    voltageTarget { Recipe.factory with vt25 := 2300, k := -60, vmax := 2400 } (compensationTemp none)
      = 52800 := by decide +kernel

/-- 5.11.2 B: cold. -/
theorem test_5_11_2_B :
    voltageTarget { Recipe.factory with vt25 := 2500, k := -60 } (compensationTemp (some (-52))) = 61200 := by
  decide +kernel

/-- 5.11.2 C: truncation of a positive difference. -/
theorem test_5_11_2_C : voltageTarget Recipe.factory (compensationTemp (some 117)) = 59736 := by decide +kernel

/-- 5.11.2 D: the budget under the pump power. -/
theorem test_5_11_2_D :
    budgetAvailable { pumping with plant := { pumping.plant with budget := 100 } } = 0 := by decide +kernel

/-- 5.11.2 F: a collapsed reading with derate. -/
theorem test_5_11_2_F :
    let s := { idle with plant := { idle.plant with
      budget := 600, report := some { discharge := false, busVoltage := 0, load := 0, headroom := 150 } } }
    permittedCurrent s Recipe.factory (some 412) 12000 = 69 := by decide +kernel

/-- 5.11.2 G: derate into LOW ENERGY. -/
theorem test_5_11_2_G :
    permittedCurrent idle { Recipe.factory with ilim := 35 } (some 405) 54000 = 17 := by decide +kernel

/-- 5.11.3: the sixth window closes with a drop of 2 and counts. -/
theorem test_5_11_3 :
    let a := plateauStage Recipe.factory 10800 39 10
      { Accounting.fresh with windowTime := 1790, windowMin := some 40, prevMin := some 41 }
    a.plateau = 1 ∧ a.prevMin = some 39 ∧ a.windowTime = 0 := by decide +kernel

/-- 5.11.4: a window that closes at a held period is dropped with its minimum. -/
theorem test_5_11_4 :
    let r := { round6 with acct := { Accounting.fresh with
      lastFresh := some { vs := 57790, is := 41 }, overcharge := 520410, windowTime := 1790
      windowMin := some 41, plateau := 1, prevMin := some 43 } }
    let a := heldPeriod (driving .hold r) r .hold
    a.overcharge = 520820 ∧ a.windowTime = 0 ∧ a.windowMin = none ∧ a.plateau = 1 ∧ a.prevMin = some 43 := by
  decide +kernel

/-- 5.11.5: the three doses. -/
theorem test_5_11_5 :
    let dose := fun (q : Nat) (h : Option Nat) =>
      let r := { round6 with acct := { Accounting.fresh with overcharge := q } }
      computedDose (withRecord 6 (fun x => { x with hoursWater := h }) (driving .hold r)) r
    dose 698400 (some 336) = 717 ∧ dose 4000000 (some 3000) = 4800 ∧ dose 36000 none = 9 := by decide +kernel

/-! ### The sweep: 2.8.1 -/

/-- A TAKE LOOP has been asked for and waits. -/
def pendingRelease (s : State) : State := { s with loop := { s.loop with release := .pending } }

def awaiting (it : SweepItem) (c : LoopCommand) (rest : List SweepItem) : State :=
  sending (flight (.sweep it) (nodeOf it.string) c)
    { idle with
      sweep := { Sweep.reset with run := some (it :: rest), dividerCount := 1 }
      settings := { idle.settings with
        calibration := (Vector.replicate 8 (0 : Int)).set 5 (-37)
        defaultRecipe := (Vector.replicate 8 (0 : Fin 4)).set 5 2 }
      strings := idle.strings.set 5
        { StringRecord.powerOn with voltage := 53950, age := 31, throughput := 4126, remainder := 2500 } }

theorem test_2_8_1_summary :
    let s := awaiting (.summary 5) .readSummary [.cells 5]
    let t := after (answered (flight (.sweep (.summary 5)) 5 .readSummary)
      (enc2 53912 ++ enc2i (-423) ++ enc2i 418 ++ [0, 0])) s
    (recordOf t 5).voltage = 53875 ∧ (recordOf t 5).throughput = 4130 ∧ (recordOf t 5).remainder = 1213
      ∧ (recordOf t 5).age = 0 ∧ t.loop.claimSweep = some (.cells 5) := by decide +kernel

theorem test_2_8_1_cells :
    let s := awaiting (.cells 5) .readCells []
    let t := after (answered (flight (.sweep (.cells 5)) 5 .readCells)
      (enc2 2189 ++ enc2 2292 ++ (List.replicate 22 (enc2 2250)).flatten)) s
    (recordOf t 5).spread = some 103 ∧ t.sweep.alarm = some (5, 103)
      ∧ t.log.roundNumber = 1 ∧ (t.eqc.round.map fun r => (r.string, r.recipeNo, r.origin)) = some (5, 2, .sweep) := by
  decide +kernel

/-- R30: a failed READ SUMMARY drops the node's READ CELLS, and the next string's summary is claimed. -/
theorem test_failedSummaryDropsCells :
    let t := sweepItemEnded (.summary 5) .noAnswer
      { idle with sweep := { Sweep.reset with run := some [.summary 5, .cells 5, .summary 6] } }
    t.sweep.run = some [.summary 6] ∧ t.loop.claimSweep = some (.summary 6) := by decide +kernel

/-! ### The Round Queue: 3.8.3 -/

def full12 : State :=
  waiting ((List.finRange 6).map (fun i => entry (.equalise 0) (Fin.castLE (by decide) i) .normal)
      ++ (List.finRange 6).map (fun i => entry (.water 1500) (Fin.castLE (by decide) i) .normal)) idle

theorem test_3_8_urgent_displaces :
    let t := post (entry (.equalise 0) 6 .urgent) full12
    t.2 = .added ∧ t.1.queue.length = 12 ∧ findEntry .water 5 t.1.queue = none
      ∧ (t.1.log.places[1]).map (fun r => (r.kind, r.string)) = some (.displaced, some 5) := by decide +kernel

theorem test_3_8_normal_is_refused :
    (post (entry (.water 6000) 6 .normal) full12).2 = .refused .full := by decide +kernel

theorem test_3_8_merge :
    let t := (post (entry (.water 4800) 1 .urgent) full12).1
    findEntry .water 1 t.queue = some (entry (.water 4800) 1 .urgent) ∧ t.queue.length = 12 := by decide +kernel

/-! ### Watering: 6.10.1 -/

theorem test_6_10_1_full :
    let t := after (answered (flight (.water .dosePoll) 9 .readWater) (enc2 384 ++ enc2 409 ++ [0]))
      (sending (flight (.water .dosePoll) 9 .readWater) (dosing .dose { dose3 with pollTimer := none }))
    t.wac.state = .stop ∧ (t.wac.dose.map fun d => d.outcome) = some (some .full)
      ∧ t.loop.claimWater = some .pumpOff := by decide +kernel

theorem test_6_10_1_stillMoving :
    let t := after (answered (flight (.water .dosePoll) 9 .readWater) (enc2 384 ++ enc2 409 ++ [0]))
      (sending (flight (.water .dosePoll) 9 .readWater)
        (dosing .dose { dose3 with elapsed := some 54, pollTimer := none }))
    t.wac.state = .dose ∧ (t.wac.dose.map fun d => d.pollTimer) = some (some 0) := by decide +kernel

theorem test_6_10_1_roundEnd :
    let t := after (answered (flight (.water (.closeValve 3)) 3 (.setValve false)) [])
      (sending (flight (.water (.closeValve 3)) 3 (.setValve false))
        (dosing .close { dose3 with outcome := some .full, pollTimer := none }))
    (recordOf t 3).waterTotal = 409 ∧ (recordOf t 3).hoursWater = some 0 ∧ (recordOf t 3).state = .float
      ∧ (recordOf t 3).lastWater = some (.full, 409) ∧ t.wac.valve = .empty
      ∧ (t.log.places[1]).map (fun r => (r.number, r.dose, r.delivered)) = some (some 421, 717, 409) := by
  decide +kernel

/-! ### The window and the plant: 7.9 -/

theorem test_7_9_1_clampedBudget :
    replyAt .energy (.openWindow .energy 1 25000 60) idle
      = some (.doneClamped, [1, 0x4E, 0x20, 0, 60]) := by decide +kernel

theorem test_7_9_1_noMinutes : replyAt .energy (.openWindow .energy 1 1500 0) idle = some (.range, []) := by
  decide +kernel

theorem test_7_9_2_stale :
    let s := { idle with plant := { idle.plant with age := 180 } }
    (after .siteTick s).plant.staleDue = true ∧ (after .stale (after .siteTick s)).plant.stale = true
      ∧ (after .siteTick idle).plant.staleDue = false := by decide +kernel

theorem test_7_9_3_forecast :
    let recipe2 := { Recipe.factory with nominalEnergy := 4500 }
    let r := { round6 with
      recipeNo := 1, string := 3, recipe := { Recipe.factory with nominalEnergy := 2500 }
      acct := { Accounting.fresh with energy := 1870 * 36000000 } }
    let s := waiting [entry (.equalise 0) 4 .urgent, entry (.equalise 2) 6 .normal, entry (.equalise 0) 1 .normal]
      { idle with
        eqc := { Eqc.reset with state := .raise, round := some r }
        plant := { idle.plant with windowOpen := false, remaining := 0 }
        settings := { idle.settings with recipes := idle.settings.recipes.set 2 recipe2 } }
    replyAt .energy (.readForecast .energy 1) s
      = some (.done, [3, 1, 1, 0, 0, 0x2B, 0x7A, 0, 0x04, 0xB0, 0, 0, 0]) := by decide +kernel

/-! ### The loop: 8.11.1 -/

def node3 : Transaction := { flight (.sweep (.summary 3)) 3 .readSummary with holds := 2 }

theorem test_8_11_1_hold :
    let t := after (.loopReply (onLine (replyFrame 3 .readSummary 1 []))) (sending node3 idle)
    t.loop.inFlight = some (.transaction { node3 with holds := 3 }) := by decide +kernel

/-- A parity error: the request is sent again and awaited after the fixed delay. -/
theorem test_8_11_1_parity :
    let odd : LineChar := { LineChar.clean 3 with parity := 7 }
    let t := after (.loopReply [odd]) (sending node3 idle)
    t.loop.inFlight = some (.transaction { node3 with retries := 1, wait := .delay }) := by decide +kernel

/-- Table 10.7: the frame of ATTACH 3 as it is sent. -/
theorem test_loopFrame_attach : LoopCommand.frame 8 (.attach 3) = [0x08, 0x05, 0x01, 0x03, 0xEF] := by
  decide +kernel

/-- R135: LDIR transmits for the frame that a grant sends, and for none that a tick passes by. -/
theorem test_ldirTransmits :
    let s := claimEqualise (.attach 3) idle
    loopSends .loopGrant s (after .loopGrant s) = [0x08, 0x05, 0x01, 0x03, 0xEF]
      ∧ ldirTransmits .siteTick (sending node3 idle) (after .siteTick (sending node3 idle)) = false := by decide +kernel

/-- R126: the status summary of a log record carries the bus voltage and the load current. -/
theorem test_summaryCarriesTheBus :
    (summaryOf idle).busVoltage = some 54000 ∧ (summaryOf idle).load = some 100 := by decide +kernel

/-- R145: a WRITE CONFIG granted while its string is in EQUALISE ends LOCKED with nothing sent. -/
theorem test_writeConfigIsJudgedAtTheGrant :
    let s := driving .hold round6
    let t := grantSlot .service 6 (.writeConfig 480) s
    t.loop.inFlight = none ∧ t.loop.serviceSlot = .done .locked := by decide +kernel

/-- R150: a Service-slot transaction that ends after its release keeps its result, and the sequence begins. -/
theorem test_lateServiceTransaction :
    let t : Transaction := { flight (.slot .service) 9 .readWater with retries := 2 }
    let u := after .replyTimeout (sending t { idle with loop := { idle.loop with release := .safeState false none } })
    u.loop.serviceSlot = .done (.outcome .noAnswer)
      ∧ (u.loop.inFlight.map InFlight.frame) = some [0, 3, 1, 0, 0xFC] := by decide +kernel

/-! ### Demands: 9.6 -/

def polling (conf : Option (MemberNo × DemandKind)) : State :=
  { idle with
    loop := { idle.loop with inFlight := some (.poll conf) }
    demand := { idle.demand with poll := .inFlight, line := true } }

theorem test_9_6_reservoirLow :
    let t := after (.demandPollReturn (onLine (returnedPoll none [9, 6, 0, 95]))) (polling none)
    t.wac.reservoirLow = true ∧ t.demand.owed = some (9, .reservoirLow)
      ∧ t.demand.fifo = [{ word := { member := 9, kind := .reservoirLow, value := 95 }, time := none }]
      ∧ t.ports.plant.pending.getLsbD Notice.demandPending.bit = true
      ∧ t.loop.claimDemand = some .poll := by decide +kernel

theorem test_9_6_levelLow :
    let t := after (.demandPollReturn (onLine (returnedPoll (some (2, .overTemp)) [6, 1, 0, 0])))
      { polling (some (2, .overTemp)) with wac := { Wac.reset with reservoirLow := true } }
    t.queue = [{ work := .water 4800, string := 6, urgency := .urgent, origin := .demand }] := by decide +kernel

/-! ### Notices and frames: 10.6, Tables 10.5 and 10.6 -/

theorem test_10_6_ack :
    let s := { idle with ports := { idle.ports with energy :=
      { PortUnit.reset .b9600 with pending := 0x401, enabled := 0x005 } } }
    let t := after (.ackNotices .energy 1 1) s
    t.ports.energy.pending = 0x400 ∧ s.ports.energy.attention = true ∧ t.ports.energy.attention = false
      ∧ (after (.setNoticeEnables .energy 1 0x405) (withRx .energy .hunt t)).ports.energy.attention = true := by
  decide +kernel

/-- A READ NOTICES frame, octet by octet. -/
theorem test_requestFrame : Request.frame 7 .readNotices = [0xA5, 0x02, 0x09, 0x07, 0xEE] := by decide +kernel

theorem test_replyFrame :
    (Reply.frame { code := 0x89, tag := 7, status := .notFound, results := [] })
      = [0xA5, 0x03, 0x89, 0x07, 0x86, 0xE7] := by decide +kernel

/-- R165: the characters of the frame make the request. -/
theorem test_charactersMakeTheRequest :
    (receiveChars .energy (onLine [0xA5, 0x02, 0x05, 0x07, 0xF2]) idle).plant.windowOpen = false := by
  decide +kernel

/-! ### The log and the store: 11.5 -/

def fullLog : State := { idle with log := { idle.log with position := 16, full := Vector.replicate 4 true } }

theorem test_11_5_overrun :
    let t := logWrite (LogRecord.restart 0 .powerOn none) fullLog
    t.log.position = 17 ∧ t.log.overrun = #v[false, true, false, false]
      ∧ t.ports.plant.pending.getLsbD Notice.logOverrun.bit = true := by decide +kernel

theorem test_11_5_release :
    let t := after (.releaseSegment .service 1 1) (logWrite (LogRecord.restart 0 .powerOn none) fullLog)
    t.log.full = #v[true, false, true, true] ∧ t.log.overrun = Vector.replicate 4 false := by decide +kernel

theorem test_11_5_interruptedStore :
    let s := after (.storeSettings .service 1) { idle with store := { idle.store with checkHolds := true } }
    let t := after (.pinReset low) s
    t.settings = Settings.factory ∧ t.store.defaulted = true
      ∧ t.ports.service.pending.getLsbD Notice.settingsStored.bit = true := by decide +kernel

/-! ### Witnesses: for each statement with hypotheses, states and operands that meet every clause's -/

/-- An outcome that is no answer. -/
theorem noAnswer_is_none : ∀ d : List Octet, TxOutcome.noAnswer ≠ .answer d := by simp

theorem witness_StepTakesTheFrontCommand :
    State.reset.pending = [] ∧ (State.reset.withPending [.siteTick, .siteHour]).pending = .siteTick :: [.siteHour] := by
  decide

def owed (r : Reply) : State := withRx .service (.replyOwed r) idle

def restartReply : Reply := { code := 0x9E, tag := 1, status := .done, results := [] }

theorem witness_ReplySentAndRestart :
    hears .service idle ∧ rxOf (owed restartReply) .service = .replyOwed restartReply
      ∧ rxOf (owed { restartReply with status := .range }) .service = .replyOwed { restartReply with status := .range }
      ∧ ∀ r : Reply, rxOf idle .service ≠ .replyOwed r := by
  refine ⟨by decide, by decide, by decide, ?_⟩
  simp [rxOf, idle, State.reset, Ports.get, PortUnit.reset]

theorem witness_QuietTickRunsTheTimers : nothingDue idle ∧ nothingDue (driving .hold { round6 with timer :=
    { count := 9, length := 10, running := true } }) := by decide +kernel

/-- The window closed, and an entry that waits for it. -/
def closed : State :=
  waiting [entry (.equalise 0) 1 .normal] { idle with plant := { idle.plant with windowOpen := false, remaining := 0 } }

/-- Entries for both channels, on one string and on two. -/
def rivals (i : StringNo) : State := waiting [entry (.water 1000) i .normal, entry (.equalise 3) 7 .urgent] idle

theorem witness_DispatchIsJudged :
    let e := entry (.equalise 3) 7 .urgent
    let w := fun i => entry (.water 1000) i .normal
    (closed.queue.all fun e => !eligibleEqualise closed e) ∧ closed.wac.check = none
      ∧ (closed.queue.all fun e => !eligibleWater closed e)
      ∧ ((queueOrder (rivals 7).queue).find? (eligibleEqualise (rivals 7))) = some e
      ∧ ((queueOrder (rivals 7).queue).find? (eligibleWater (rivals 7))) = some (w 7)
      ∧ ((queueOrder (rivals 0).queue).find? (eligibleWater (rivals 0))) = some (w 0) := by
  decide +kernel

def asked : State := waiting [entry (.water 1000) 7 .normal, entry (.equalise 3) 7 .urgent] idle

theorem witness_EqualiseClaimBeginsTheRound :
    (queueOrder asked.queue).find? (eligibleEqualise asked) = some (entry (.equalise 3) 7 .urgent) := by
  decide +kernel

/-- The reservoir check is out for string 7; a reading of 11.0 L is just the reserve and the dose limit. -/
def checking : State := judgeWac (waiting [entry (.water 1000) 7 .normal] idle)

/-- The same, the entry cancelled since and another posted. -/
def reposted : State := { checking with queue := [entry (.water 1000) 7 .normal] }

theorem witness_WaterClaimAfterTheReservoirCheck :
    let e := entry (.water 1000) 7 .normal
    let c := { e with checked := true }
    let read := fun s : State => { s with wac := { s.wac with
      check := none, reservoir := some (halfAt (enc2 110) 0).toNat } }
    let held : State := { checking with plant := { checking.plant with hold := true } }
    asked.wac.check = none ∧ (queueOrder asked.queue).find? (eligibleWater asked) = some e
      ∧ checking.wac.check = some 7 ∧ findEntry .water 7 checking.queue = some c
      ∧ reposted.wac.check = some 7 ∧ findEntry .water 7 reposted.queue = some e
      ∧ (halfAt (enc2 109) 0).toNat * 100 < checking.settings.reserve * 100 + 1000
      ∧ checking.settings.reserve * 100 + 1000 ≤ (halfAt (enc2 110) 0).toNat * 100
      ∧ eligibleWater (read checking) c ∧ held.wac.check = some 7 ∧ findEntry .water 7 held.queue = some c
      ∧ eligibleWater (read held) c = false := by decide +kernel

/-- R105: the entry left during the check and another was posted for its string: the new one is not claimed. -/
theorem test_checkOfAnEntryThatLeft :
    (checkEnded (.answer (enc2 110)) checking).wac.state = .open
      ∧ (checkEnded (.answer (enc2 110)) reposted).wac.state = .idle
      ∧ (checkEnded (.answer (enc2 110)) reposted).queue = reposted.queue := by decide +kernel

def matched (run : Option (List SweepItem)) : State :=
  { idle with sweep := { Sweep.reset with matchDue := true, run := run } }

theorem witness_SweepMatchStartsOrIsLate :
    idle.sweep.matchDue = false ∧ (matched none).sweep.matchDue ∧ (matched none).sweep.run = none
      ∧ (matched (some [.cells 7])).sweep.matchDue ∧ (matched (some [.cells 7])).sweep.run ≠ none
      ∧ (matched (some [.summary 7, .cells 7])).sweep.run = some [.summary 7, .cells 7] := by decide +kernel

theorem witness_SummaryIsWritten :
    sweepAwaits (.summary 5) .readSummary [.cells 5] (awaiting (.summary 5) .readSummary [.cells 5])
      ∧ sweepAwaits (.summary 7) .readSummary [] (pendingRelease (awaiting (.summary 7) .readSummary [])) := by
  decide +kernel

theorem witness_CellsAreWrittenAndChecked :
    sweepAwaits (.cells 5) .readCells [] (awaiting (.cells 5) .readCells [])
      ∧ sweepAwaits (.cells 7) .readCells [] (pendingRelease (awaiting (.cells 7) .readCells [])) := by decide +kernel

def enabling (k : Fin 24) (s : State) : State :=
  { s with settings := { s.settings with
    schedule := s.settings.schedule.set k { ScheduleEntry.factory k with enabled := true } } }

def traversing : State := enabling 23 { idle with schedule := { counter := 0, matchDue := true } }

theorem witness_ScheduleMatchPostsWhatIsDue :
    let two := enabling 0 traversing
    idle.schedule.matchDue = false ∧ traversing.schedule.matchDue
      ∧ (∀ j : Fin 24, j ≠ 23 → traversing.settings.schedule[j].enabled = false)
      ∧ traversing.settings.schedule[23].enabled = true
      ∧ two.schedule.matchDue ∧ (∀ j : Fin 24, j ≠ 0 → j ≠ 23 → two.settings.schedule[j].enabled = false) := by
  decide +kernel

theorem witness_RequestRoundPosts :
    hears .service idle ∧ hears .plant idle ∧ Port.plant ≠ .service
      ∧ ((1 : Octet).toNat ≤ 1 ∧ (1 : Octet).toNat ≤ 1 ∧ (3 : Octet).toNat ≤ 3)
      ∧ 8 ≤ (8 : Octet).toNat
      ∧ ((1 : Octet).getLsbD 0 ∧ 4 ≤ (4 : Octet).toNat)
      ∧ ((2 : Octet).getLsbD 1 ∧ ((0 : Half) = 0 ∨ 10000 < (0 : Half).toNat))
      ∧ ((2 : Octet).getLsbD 1 ∧ ((10001 : Half) = 0 ∨ 10000 < (10001 : Half).toNat))
      ∧ ((3 : Octet).getLsbD 0 = false ∨ (3 : Octet).toNat < 4)
      ∧ ((3 : Octet).getLsbD 1 = false ∨ (1 ≤ (10000 : Half).toNat ∧ (10000 : Half).toNat ≤ 10000))
      ∧ ((0 : Octet).getLsbD 0 = false ∧ (0 : Octet).getLsbD 1 = false) := by decide

theorem witness_CancelRoundWithdraws :
    hears .service idle ∧ (1 : Octet).toNat ≤ 1 ∧ 8 ≤ (8 : Octet).toNat ∧ Port.energy ≠ .service
      ∧ hears .energy idle ∧ findEntry .water 7 asked.queue = some (entry (.water 1000) 7 .normal)
      ∧ hears .service asked ∧ hears .service (driving .raise round6)
      ∧ findEntry .equalise 6 (driving .raise round6).queue = none
      ∧ (recordOf (driving .raise round6) 6).state.holder = .eqc := by decide +kernel

theorem witness_BarAndUnbarAnswer :
    hears .service idle ∧ 8 ≤ (8 : Octet).toNat ∧ Port.plant ≠ .service ∧ hears .plant idle
      ∧ isInstalled idle 7 ∧ (recordOf idle 7).state.holder = .none := by decide +kernel

/-! #### Rounds -/

def decidedR : Round := { round6 with outcome := some .finished }

theorem witness_EqualiseOutcomeIsDecidedOnce :
    (driving .raise decidedR).eqc.round = some decidedR ∧ decidedR.outcome.isSome
      ∧ (driving .raise round6).eqc.round = some round6 ∧ round6.outcome = none
      ∧ (driving .raise round6).eqc.state = .raise ∧ (driving .hold round6).eqc.state = .hold
      ∧ (driving .paused round6).eqc.state = .paused ∧ (driving .connect round6).eqc.state = .connect
      ∧ (equaliseInFlight (sending (flight (.equalise .connectStandby) 8 .standby) (driving .connect round6))).isSome
      ∧ equaliseInFlight (driving .connect round6) = none
      ∧ (driving .connect round6).loop.claimEqualise ≠ some (.attach round6.string)
      ∧ (claimEqualise (.attach 6) (driving .connect round6)).loop.claimEqualise = some (.attach round6.string)
      ∧ round6.faultAtEnd = false := by decide +kernel

theorem witness_EqualiseOutcomeIsDecidedOnce_claims :
    ∀ i, (driving .connect round6).loop.claimEqualise = some (.attach i) → i = round6.string := by decide +kernel

/-- A site whose headroom is spent: the permitted current is below every recipe's minimum. -/
def noHeadroom (s : State) : State :=
  { s with plant := { s.plant with
    report := some { discharge := false, busVoltage := 54000, load := 500, headroom := 0 } } }

theorem witness_ConnectOpensTheRound :
    let s := driving .connect round6
    let t := noHeadroom s
    s.eqc.state = .connect ∧ s.eqc.round = some round6 ∧ round6.outcome = none ∧ round6.faultAtEnd = false
      ∧ round6.pauses.isEmpty
      ∧ round6.recipe.imin ≤ (setpointAt s round6 (recordOf s round6.string).voltage).perm
      ∧ (setpointAt t round6 (recordOf t round6.string).voltage).perm < round6.recipe.imin
      ∧ ({ round6 with pauses := { PauseSet.none with held := true } } : Round).pauses.isEmpty = false := by
  decide +kernel

theorem witness_ConnectOpensTheRound_decided :
    (driving .connect decidedR).eqc.state = .connect ∧ (driving .connect decidedR).eqc.round = some decidedR
      ∧ decidedR.outcome.isSome ∧ ({ round6 with faultAtEnd := true } : Round).faultAtEnd := by decide +kernel

theorem witness_EqualiseRoundIsHandedOn :
    (driving .detach decidedR).eqc.round = some decidedR
      ∧ (recordOf (driving .detach decidedR) decidedR.string).state = .equalise none
      ∧ decidedR.outcome = some .finished := by decide +kernel

theorem witness_DetachEndsTheRound :
    (driving .detach decidedR).eqc.round = some decidedR
      ∧ (setAttachment .empty (driving .detach decidedR)).eqc.attachment = .empty
      ∧ (driving .detach decidedR).eqc.attachment = .names 6 true := by decide +kernel

theorem witness_PauseCausesPauseAndResume :
    let joined : Round := { round6 with pauses := { PauseSet.none with held := true } }
    openRound idle = none ∧ (driving .raise decidedR).eqc.round = some decidedR ∧ decidedR.outcome.isSome
      ∧ openRound (driving .hold round6) = some round6
      ∧ (driving .hold round6).eqc.state = .hold ∧ round6.pauses.isEmpty
      ∧ openRound (driving .connect round6) = some round6 ∧ (driving .connect round6).eqc.state = .connect
      ∧ openRound (driving .raise joined) = some joined ∧ joined.pauses.isEmpty = false
      ∧ openRound (driving .paused joined) = some joined ∧ (driving .paused joined).eqc.state = .paused
      ∧ (joined.pauses.put .held false).isEmpty ∧ (joined.pauses.put .stale false).isEmpty = false := by
  decide +kernel

/-- R70: the window closed and opened again while a SET POINT is in flight: the pause taken at the closing still claims
its STANDBY. -/
theorem test_pauseThatEndsBeforeItsStandby :
    let sp : Setpoint := { target := 57840, perm := 196 }
    let t := flight (.equalise (.setPoint sp)) 8 (.setPoint 57840 196)
    let s := removePause .windowClosed (addPause .windowClosed (sending t (driving .hold round6)))
    (s.eqc.round.map fun r => (r.pauses.isEmpty, r.pauseOwed)) = some (true, true)
      ∧ (setPointAnswered { vs := 54900, is := 194 } s).loop.claimEqualise = some .pauseStandby := by
  decide +kernel

theorem witness_SetpointIsComputed : 2200 ≤ round6.recipe.vmax ∧ round6.recipe.k ≤ 0 := by decide

theorem witness_PlateauIsJudged :
    min 65535 (1780 + 10) < Recipe.factory.plateauWindow * 60
      ∧ Recipe.factory.plateauWindow * 60 ≤ min 65535 (1790 + 10)
      ∧ min 65535 (round6.acct.windowTime + round6.timer.length) < round6.recipe.plateauWindow * 60 := by decide

def decidedD : Dose := { dose3 with outcome := some .full, pollTimer := none }

/-- A dose whose valve has not been opened yet. -/
def opening : State :=
  { dosing .open { dose3 with pumpOnSent := false } with wac :=
    { (dosing .open { dose3 with pumpOnSent := false }).wac with valve := .empty, pump := .off } }

theorem witness_WaterOutcomeIsDecidedOnce :
    let out := sending (flight (.water (.openValve 3)) 3 (.setValve true)) opening
    (dosing .stop decidedD).wac.dose = some decidedD ∧ decidedD.outcome.isSome
      ∧ (dosing .dose dose3).wac.dose = some dose3 ∧ dose3.outcome = none
      ∧ (dosing .dose dose3).wac.state = .dose ∧ waterInFlight (dosing .dose dose3) = none
      ∧ opening.wac.state = .open ∧ opening.wac.dose = out.wac.dose ∧ (waterInFlight out).isSome := by decide +kernel

theorem witness_DoseReadingIsJudged :
    (dosing .dose dose3).wac.state = .dose ∧ (dosing .dose dose3).wac.dose = some dose3 ∧ dose3.outcome = none
      ∧ dose3.elapsed = some 56 ∧ (dosing .dose decidedD).wac.state = .dose
      ∧ (dosing .dose decidedD).wac.dose = some decidedD ∧ decidedD.outcome.isSome
      ∧ decidedD.elapsed = some 56 := by decide +kernel

theorem witness_WaterTransactionsEnd :
    let stopped := dosing .stop decidedD
    let off : State := { stopped with wac := { stopped.wac with pump := .off } }
    let shut : State := { off with wac := { off.wac with valve := .empty } }
    (dosing .dose dose3).wac.dose = some dose3 ∧ dose3.outcome = none ∧ decidedD.outcome.isSome
      ∧ stopped.wac.dose = some decidedD ∧ stopped.wac.valve.holds decidedD.string ∧ stopped.wac.pump ≠ .off
      ∧ off.wac.dose = some decidedD ∧ off.wac.valve.holds decidedD.string ∧ off.wac.pump = .off
      ∧ shut.wac.dose = some decidedD ∧ shut.wac.valve = .empty ∧ shut.wac.pump = .off := by decide +kernel

theorem witness_WaterRoundIsHandedOn :
    (dosing .close decidedD).wac.dose = some decidedD
      ∧ (recordOf (dosing .close decidedD) decidedD.string).state = .water none
      ∧ decidedD.outcome = some .full := by decide +kernel

theorem witness_ChannelTimersAct :
    let p : Pause := { phase := .hold, elapsed := 7200, expired := true }
    let r : Round := { round6 with pause := some p, pauses := { PauseSet.none with lowEnergy := true } }
    let bare : Round := { round6 with acct := { round6.acct with held := none } }
    (driving .raise bare).eqc.round = some bare ∧ bare.outcome = none ∧ (driving .raise bare).eqc.state = .raise
      ∧ (driving .raise round6).eqc.round = some round6 ∧ round6.outcome = none
      ∧ (driving .raise round6).eqc.state = .raise ∧ (driving .hold round6).eqc.state = .hold
      ∧ round6.acct.held = some { target := 57840, perm := 196 }
      ∧ (driving .paused r).eqc.round = some r ∧ (driving .paused r).eqc.state = .paused ∧ r.pause = some p
      ∧ openRound idle = none ∧ (dosing .dose dose3).wac.dose = some dose3 ∧ idle.wac.dose = none := by
  decide +kernel

theorem witness_SetPointOutcomeActs :
    ((driving .raise round6).eqc.state = .raise ∨ (driving .raise round6).eqc.state = .hold)
      ∧ ((driving .hold round6).eqc.state = .raise ∨ (driving .hold round6).eqc.state = .hold)
      ∧ (driving .hold round6).eqc.round = some round6 ∧ round6.outcome = none
      ∧ (driving .raise decidedR).eqc.round = some decidedR ∧ decidedR.outcome.isSome ∧ decidedR.failures < 2 := by
  decide +kernel

/-- R104: the poll's reading at the reserve plus 10 clears the flag, and one below it restarts the timer. -/
theorem test_reservoirPoll :
    let s := { idle with wac := { Wac.reset with reservoirLow := true } }
    let low := (s.settings.reserve + 9)
    (reservoirPollEnded (.answer (enc2 (low + 1))) s).wac.reservoirLow = false
      ∧ (reservoirPollEnded (.answer (enc2 low)) s).wac.pollTimer = some 0 := by decide +kernel

/-- R111: a READ WATER that ends after the outcome was decided begins the end sequence. -/
theorem test_pollOfADecidedDose :
    let t := dosePollEnded .noAnswer (dosing .dose decidedD)
    t.wac.state = .stop ∧ t.loop.claimWater = some .pumpOff := by decide +kernel

/-! #### The window, the plant and the loop -/

theorem witness_WindowOpensAndCloses : hears .energy idle ∧ hears .energy closed := by decide

theorem witness_PlantStatusIsWritten :
    hears .plant idle ∧ 2 ≤ (2 : Octet).toNat ∧ (1 : Octet).toNat ≤ 1 := by decide

theorem witness_HoldAndStale :
    hears .plant idle ∧ idle.plant.stale = false ∧ State.reset.plant.report = none := by decide

theorem witness_LoopGrantTakesTheHighestLevel :
    (sending node3 idle).loop.inFlight.isSome
      ∧ ((pendingRelease idle).loop.release = .pending ∧ grantConditions (pendingRelease idle))
      ∧ (released idle).loop.release.place = Release.place (.released false)
      ∧ State.reset.loop.release.place = Release.place (.safeState false none)
      ∧ idle.loop.inFlight = none ∧ idle.loop.release = .free
      ∧ (pendingRelease (dosing .dose dose3)).loop.release = .pending
      ∧ grantConditions (pendingRelease (dosing .dose dose3)) = false := by decide +kernel

theorem witness_AttemptsAreRepeated :
    let a := flight (.water .pumpOff) 9 .pumpOff
    let h := flight (.equalise .detach) 8 .detach
    (sending node3 idle).loop.inFlight = some (.transaction node3) ∧ node3.wait = .reply ∧ node3.retries < 2
      ∧ node3.command = .readSummary ∧ (List.replicate 8 (0 : Octet)).length = 8
      ∧ node3.cls.cls = .fh ∧ node3.holds < node3.cls.holdLimit
      ∧ ({ node3 with holds := 5 } : Transaction).cls.holdLimit ≤ ({ node3 with holds := 5 } : Transaction).holds
      ∧ h.cls.cls = .h ∧ h.holds < h.cls.holdLimit
      ∧ a.cls.cls = .a ∧ a.holds = 0 ∧ ({ a with holds := 1 } : Transaction).holds ≠ 0
      ∧ ({ node3 with cls := { node3.cls with cls := .f } } : Transaction).cls.cls = .f
      ∧ ({ node3 with wait := .delay } : Transaction).wait ≠ .reply := by decide +kernel

def passing : Transaction := { flight (.slot .service) 9 .readWater with retries := 2 }

/-- Two failures are counted for every member. -/
def failing (s : State) : State := { s with loop := { s.loop with failures := Vector.replicate 10 2 } }

theorem witness_TransactionEndsAndCounts :
    let third := sending passing (failing idle)
    third.loop.inFlight = some (.transaction passing) ∧ passing.claimant = .slot .service
      ∧ idle.loop.release = .free ∧ passing.wait = .reply ∧ 2 ≤ passing.retries
      ∧ marksAbsent third passing.member .noAnswer ∧ !marksAbsent (sending passing idle) passing.member .noAnswer := by
  decide +kernel

theorem witness_TransactionEndsAndCounts_claimant :
    (∀ j : SafeJob, passing.claimant ≠ .safeState j)
      ∧ (sending passing { idle with loop := { idle.loop with release := .safeState false none } }).loop.inFlight
        = some (.transaction passing)
      ∧ idle.eqc.attachment = .empty ∧ idle.wac.pump = .off := by
  refine ⟨by simp [passing, flight], rfl, by decide, by decide⟩

theorem witness_ReleaseIsTakenAndGranted :
    hears .service idle ∧ idle.loop.release = .free ∧ (pendingRelease idle).loop.release = .pending
      ∧ (released idle).loop.release.place = Release.place (.released false)
      ∧ State.reset.loop.release = .safeState false (some [.boost]) ∧ hears .service State.reset := by decide +kernel

def faulty : State :=
  { idle with
    eqc := { Eqc.reset with state := .fault, attachment := .names 7 false }
    wac := { Wac.reset with state := .fault, valve := .names 7 false, pump := .onUnconfirmed } }

/-- The sequence under way with these steps left. -/
def safe (recorded : Bool) (steps : List SafeStep) (s : State) : State :=
  { s with loop := { s.loop with release := .safeState recorded (some steps) } }

theorem witness_ReleaseEndsInTheSafeState :
    let last := flight (.safeState .detach) 8 .detach
    let detach := safe true [] (sending last idle)
    let paused := driving .paused { round6 with pauses := { PauseSet.none with loopRelease := true } }
    (released idle).loop.release = .released false ∧ hears .service (released idle)
      ∧ (pendingRelease idle).loop.release = .pending ∧ hears .service (pendingRelease idle)
      ∧ State.reset.loop.release = .safeState false (some [.boost]) ∧ hears .service State.reset
      ∧ idle.loop.release = .free ∧ hears .service idle
      ∧ (safe false [.close 7, .pumpOff, .boost] idle).loop.release
        = .safeState false (some [.close 7, .pumpOff, .boost])
      ∧ (∀ i, SafeJob.detach ≠ .attach i) ∧ last.claimant = .safeState .detach
      ∧ detach.loop.inFlight = some (.transaction last) ∧ marksAbsent detach last.member .noAnswer = false
      ∧ (failing detach).loop.inFlight = some (.transaction last)
      ∧ marksAbsent (failing detach) last.member .noAnswer
      ∧ idle.loop.claimWater ≠ some .clearPumpOff
      ∧ (openRound paused).isSome ∧ paused.eqc.state = .paused ∧ idle.eqc.state ≠ .paused := by
  refine ⟨by decide, by decide, by decide, by decide, by decide, by decide, by decide, by decide, rfl, by simp, rfl,
    rfl, by decide +kernel, rfl, by decide +kernel, by decide, by decide, rfl, by decide⟩

theorem witness_ReleaseEndsInTheSafeState_handed :
    idle.wac.state = .idle ∧ idle.eqc.state = .idle ∧ checking.wac.state = .idle ∧ checking.loop.claimWater = some .check
      ∧ faulty.wac.state = .fault ∧ faulty.wac.clear = false ∧ faulty.eqc.state = .fault ∧ faulty.eqc.clear = false
      ∧ (let c := { faulty with eqc := { faulty.eqc with clear := true }, wac := { faulty.wac with clear := true } }
        c.wac.state = .fault ∧ c.wac.clear ∧ c.eqc.state = .fault ∧ c.eqc.clear)
      ∧ (driving .detach decidedR).eqc.state = .detach
      ∧ (safe true [] idle).loop.release = .safeState true (some [])
      ∧ (safe false [] idle).loop.release = .safeState false (some []) := by decide +kernel

/-- R1, R151: a string uninstalled during the sequence is sent no SET VALVE; the step after it is sent. -/
theorem test_safeStateLeavesTheUninstalledOut :
    let s := { idle with settings := { idle.settings with installed := idle.settings.installed.set 7 false } }
    (safeGoesOn (.close 6) (.answer []) (safe false [.close 7, .pumpOff, .boost] s)).loop.inFlight
      = some (.transaction { flight (.safeState .pumpOff) 9 .pumpOff with
          cls := idle.settings.classes[9], wait := .reply }) := by decide +kernel

theorem witness_SlotRequestsAnswer :
    (List.replicate 59 (0 : Octet)).length ≤ 59 ∧ hears .plant idle ∧ hears .service idle ∧ hears .energy idle
      ∧ passCommand 10 1 [] = none ∧ passCommand 9 0x0C [] = some (9, .readWater)
      ∧ passCommand 8 0x05 [7] = some (8, .attach 7) ∧ passCommand 8 0x05 [8] = none
      ∧ passCommand 0 0x04 [1, 0xE0] = some (0, .writeConfig 480) := by decide +kernel

def rawOut : State :=
  released { idle with loop := { idle.loop with inFlight := some (.raw [1, 2]), serviceSlot := .inFlight } }

theorem witness_RawExchangeIsCollected :
    let late := { rawOut with loop := { rawOut.loop with release := .safeState false none } }
    hears .service (released idle) ∧ (List.replicate 62 (0 : Octet)).length ≤ 62
      ∧ 56 < (List.replicate 57 (0 : Octet)).length ∧ ¬ 56 < (List.replicate 56 (0 : Octet)).length
      ∧ Port.plant ≠ .service ∧ hears .plant idle
      ∧ rawOut.loop.inFlight = some (.raw [1, 2])
      ∧ rawOut.loop.release.place = Release.place (.released false)
      ∧ late.loop.inFlight = some (.raw [1, 2]) ∧ late.loop.release = .safeState false none
      ∧ idle.loop.inFlight = none := by decide +kernel

theorem witness_ClearChannelAnswers :
    let shut := { faulty with wac := { faulty.wac with valve := .empty } }
    hears .service idle ∧ idle.eqc.state ≠ .fault ∧ idle.wac.state ≠ .fault ∧ hears .service faulty
      ∧ faulty.eqc.state = .fault ∧ faulty.wac.state = .fault ∧ faulty.wac.valve.holds 7
      ∧ shut.wac.valve = .empty
      ∧ detachIsOut faulty = false ∧ pumpOffIsOut faulty = false := by decide +kernel

/-! #### Demands, ports, settings -/

theorem witness_DemandClaimIsJudged :
    idle.demand.rewrite = false
      ∧ ({ idle with demand := { idle.demand with rewrite := true } } : State).demand.rewrite := by decide

theorem witness_PollReturns :
    (polling none).loop.inFlight = some (.poll none) ∧ idle.loop.inFlight = none
      ∧ (10 ≤ (10 : Octet).toNat ∧ (10 : Octet) ≠ 0xFF)
      ∧ ((9 : Octet) ≠ 0xFF ∧ ((0 : Octet) = 0 ∨ 8 ≤ (0 : Octet).toNat))
      ∧ ((9 : Octet) ≠ 0xFF ∧ ((8 : Octet) = 0 ∨ 8 ≤ (8 : Octet).toNat)) := by decide +kernel

theorem witness_DemandActs :
    (DemandKind.flowLeak = .boostFault ∨ DemandKind.flowLeak = .reservoirLow ∨ DemandKind.flowLeak = .flowLeak)
      ∧ (DemandKind.levelLow ≠ .boostFault ∧ DemandKind.levelLow ≠ .nodeRestart)
      ∧ (DemandKind.levelLow ≠ .nodeRestart ∧ DemandKind.levelLow ≠ .reservoirLow
        ∧ DemandKind.levelLow ≠ .flowLeak)
      ∧ faulty.wac.state = .fault ∧ (openDose (dosing .dose dose3)).isSome
      ∧ openDose (dosing .stop decidedD) = none ∧ (dosing .stop decidedD).wac.state ≠ .idle
      ∧ (dosing .stop decidedD).wac.state ≠ .fault ∧ idle.wac.state = .idle := by decide +kernel

theorem witness_FifoTakesAndGives :
    Port.plant ≠ .service ∧ hears .plant idle ∧ hears .service idle := by decide

theorem witness_ReadsChangeNothing :
    hears .plant idle ∧ hears .energy idle ∧ hears .service idle := by decide

theorem witness_NoticesAreAnswered :
    hears .plant idle ∧ 4096 ≤ (4096 : Half).toNat ∧ (4095 : Half).toNat < 4096 := by decide

theorem witness_ReceiveStatesFollowTheLine :
    let f := withRx .plant (.frame none [] false) idle
    let g := withRx .plant (.frame (some 2) [0x09] false) idle
    let h := withRx .plant (.frame (some 2) [0x09, 0x07] false) idle
    rxOf idle .plant = .hunt ∧ (0 : Octet) ≠ 0xA5 ∧ rxOf f .plant = .frame none [] false
      ∧ rxOf g .plant = .frame (some 2) [0x09] false ∧ ([0x09] : List Octet).length < (2 : Octet).toNat
      ∧ rxOf h .plant = .frame (some 2) [0x09, 0x07] false
      ∧ ([0x09, 0x07] : List Octet).length = (2 : Octet).toNat
      ∧ octetSum [2, 0x09, 0x07] + 0 ≠ 0
      ∧ rxOf (withRx .plant .resync idle) .plant = .resync
      ∧ rxOf (owed restartReply) .service = .replyOwed restartReply := by decide +kernel

theorem witness_CharactersMakeTheRequest :
    hears .service idle ∧ (Request.params (.writeSetting 1 0 (List.replicate 60 0))).length ≤ 62
      ∧ (Request.params (.loopTransaction 0 1 (List.replicate 59 0))).length ≤ 62
      ∧ commandOf .service 7 (.barString 7) = some (.barString .service 7 7) := by decide +kernel

theorem witness_CharactersMakeTheRequest_data :
    ∀ (m c : Octet) (d : List Octet),
      Request.loopTransaction 0 1 (List.replicate 59 0) = .loopTransaction m c d → d.length ≤ 59 := by
  intro m c d h
  cases h
  decide

theorem witness_SettingIsWritten :
    hears .service idle ∧ (List.replicate 60 (0 : Octet)).length ≤ 60
      ∧ Setting.named 0x18 0 = none ∧ Setting.named 0x06 8 = none ∧ Setting.named 0x06 7 = some (.installed 7)
      ∧ NumberSetting.dmax.range.1 ≤ 4800 ∧ 4800 ≤ NumberSetting.dmax.range.2
      ∧ (ScheduleEntry.factory 23).valid ∧ (250 : Octet).toNat ≤ 250 ∧ 1 ≤ (20 : Octet).toNat ∧ (20 : Octet).toNat ≤ 20
      ∧ RecipeParam.imin.range.1 ≤ RecipeParam.imin.range.2
      ∧ (10001 < NumberSetting.dmax.range.1 ∨ NumberSetting.dmax.range.2 < 10001) ∧ NumberSetting.dmax.single = false
      ∧ ¬ NumberSetting.dmax.range.1 < 0 ∧ 1 < (2 : Octet).toNat ∧ 20 < (21 : Octet).toNat
      ∧ NumberSetting.period ≠ .dmax ∧ NumberSetting.period ≠ .threshold
      ∧ NumberSetting.dmin ≠ .dmax := by decide +kernel

/-- The premises of its refusals of a schedule entry at their bounds (R39), where the entry written is an EQUALISE and
where it is a WATER, and of a recipe parameter and a map (R86, R136). -/
theorem witness_SettingIsWritten_refusals :
    let wasWater := fun s : State => match s.settings.schedule[(0 : Fin 24)].work with
      | .water _ => true
      | .equalise _ _ => false
    let watering := { idle with settings := { idle.settings with
      schedule := idle.settings.schedule.set 0 { ScheduleEntry.factory 0 with work := .water 1 } } }
    wasWater idle = false ∧ wasWater watering
      ∧ 1 < (2 : Octet).toNat ∧ 7 < (8 : Octet).toNat ∧ (halfOf 0 0).toNat = 0 ∧ 4000 < (halfOf 0x0F 0xA1).toNat
      ∧ (1 : Octet).getLsbD 0 ∧ 3 < (4 : Octet).toNat ∧ (4 : Octet).getLsbD 2 ∧ 10000 < (halfOf 0x27 0x11).toNat
      ∧ !((1 : Octet).getLsbD 0 && (1 : Octet).getLsbD 2) ∧ (2 : Octet).getLsbD 1 ∧ !(5 : Octet).getLsbD 1
      ∧ ScheduleEntry.valid { ScheduleEntry.factory 0 with work := .water 1 }
      ∧ RecipeParam.k.range.2 < 1 ∧ -61 < RecipeParam.k.range.1 ∧ (1 : Int) < 32768 ∧ (-32768 : Int) ≤ -61
      ∧ ([] : List Octet).length ≠ 11 ∧ (∃ o ∈ ([10] : List Octet), 9 < o.toNat) := by decide +kernel

theorem witness_StoreClockAndSegment : hears .service idle ∧ 4 ≤ (4 : Octet).toNat := by decide

/-- A site at which a tick waits, and the state a step of it leaves. -/
def ticking : State := idle.withPending [.siteTick]

def stepped : State := takeTick idle

theorem witness_step : step ticking = .next stepped := rfl

theorem witness_StepKeepsQueuesAndLog :
    queueKept ticking ∧ queueClearOfBars ticking ∧ fifoKept ticking ∧ logConsecutive ticking.log := by decide +kernel

theorem witness_StepKeepsTheRanges : recordsInRange ticking ∧ settingsKept ticking := by decide +kernel

/-- A step while a round runs and a string settles with the longest settle time. -/
theorem witness_StepKeepsTheRanges_settle :
    let u := modString 2 (fun r => { r with state := .settle 240 }) (driving .hold round6)
    let s := u.withPending [.siteTick]
    recordsInRange s ∧ settingsKept s ∧ settleKept s ∧ s.eqc.round = some round6
      ∧ (recordOf s 2).state.remaining = 240 ∧ step s = .next (takeTick u) := by
  refine ⟨by decide +kernel, by decide +kernel, by decide +kernel, rfl, rfl, rfl⟩

/-- A step of a state in which both channels hold their strings. -/
theorem witness_StepKeepsTheHolders :
    let s := { dosing .dose dose3 with
      strings := (dosing .dose dose3).strings.set 6 (recordOf (driving .hold round6) 6)
      eqc := (driving .hold round6).eqc, pending := [.dosePoll] }
    holdersKept s ∧ workKept s ∧ step s = .next (after .dosePoll { s with pending := [] }) := by
  refine ⟨by decide +kernel, by decide +kernel, rfl⟩

theorem witness_DecidedOutcomeStands :
    let s := (driving .detach decidedR).withPending [.siteTick]
    let t := (dosing .stop decidedD).withPending [.siteTick]
    s.eqc.round = some decidedR ∧ decidedR.outcome.isSome ∧ t.wac.dose = some decidedD ∧ decidedD.outcome.isSome
      ∧ step s = .next (takeTick (driving .detach decidedR)) ∧ step t = .next (takeTick (dosing .stop decidedD)) := by
  refine ⟨by decide, by decide, by decide, by decide, rfl, rfl⟩

end Sys2Proof.Tests
end

section
/-! SUPPORT. Chapter 1 and the posts of chapter 3: the standing of a string, posts, bars, and the two requests that bar
and unbar, with the proofs of their statements. -/

namespace Sys2Proof.Laws

open Sys2Proof.Machine

/-! ### Posts (R19, R45 to R49) -/

/-- The state of a string that keeps out a round of a kind, no bar in it: the kind's own round runs, or the string still
settles after one (R19). -/
def runningFor : Kind → StringState → Bool
  | .equalise, .equalise _ | .equalise, .settle _ | .water, .water _ => true
  | _, _ => false

/-- The standing as one chain of tests, each for the states the ones before it leave (R19). -/
theorem standing_eq (s : State) (k : Kind) (i : StringNo) :
    standing s k i =
      if !isInstalled s i || !isPresent s (nodeOf i) then .absent
      else if (recordOf s i).state.barCause.isSome || (recordOf s i).state.pendingBar.isSome then .barred
      else if runningFor k (recordOf s i).state then .running
      else .clear := by
  unfold standing
  split
  case isTrue => rfl
  case isFalse =>
    generalize (recordOf s i).state = st
    cases st with
    | float => cases k <;> rfl
    | settle n => cases k <;> rfl
    | equalise b => cases b <;> cases k <;> rfl
    | water b => cases b <;> cases k <;> rfl
    | barred c => cases k <;> rfl

/-- The clamp of R45 keeps the kind. -/
@[simp] theorem clampWork_kind (dmax : Nat) (w : Work) : (clampWork dmax w).kind = w.kind := by
  cases w <;> rfl

theorem findEntry_isSome (k : Kind) (i : StringNo) (q : List QueueEntry) :
    (findEntry k i q).isSome = q.any fun x => x.same k i := by
  rw [Bool.eq_iff_iff, findEntry, List.find?_isSome, List.any_eq_true]

/-- The youngest NORMAL entry is the last of the NORMAL entries in arrival order (R44). -/
theorem youngestNormal_eq (q : List QueueEntry) :
    youngestNormal q = (q.filter fun x => !x.urgent).getLast? :=
  List.getLast?_filter.symm

/-- What R49 leaves: the log write changes nothing of the queue. -/
theorem displace_eq (old e : QueueEntry) (s : State) :
    displace old e s =
      let u := dropEntry old.kind old.string s
      { logWrite (entryRecord .displaced none none old u) u with queue := u.queue ++ [e] } := by
  simp only [displace, addEntry, logWrite_queue]

/-- A post that finds an entry of its kind and string merges into it (R47). -/
theorem judgePost_merges (e : QueueEntry) (s : State)
    (h : (s.queue.any fun x => x.same e.kind e.string) = true) :
    judgePost e s =
      ({ s with queue := s.queue.map fun x => if x.same e.kind e.string then mergeInto e x else x }, .merged) := by
  rw [← findEntry_isSome] at h
  obtain ⟨x, hx⟩ := Option.isSome_iff_exists.mp h
  simp only [judgePost, hx]

/-- A post that finds none is added where there is room, and else displaces or is refused FULL (R48, R49). -/
theorem judgePost_joins (e : QueueEntry) (s : State)
    (h : ¬ (s.queue.any fun x => x.same e.kind e.string) = true) :
    judgePost e s =
      if s.queue.length < 12 then (addEntry e s, .added)
      else if !e.urgent then (s, .refused .full)
      else match (s.queue.filter fun x => !x.urgent).getLast? with
        | none => (s, .refused .full)
        | some old => (displace old e s, .added) := by
  rw [← findEntry_isSome, Bool.not_eq_true, Option.isSome_eq_false_iff, Option.isNone_iff_eq_none] at h
  simp only [judgePost, h, Config.queueCapacity, youngestNormal_eq]
  split
  case isTrue => rfl
  case isFalse =>
    cases e.urgent with
    | false => rfl
    | true => cases (s.queue.filter fun x => !x.urgent).getLast? <;> rfl

/-- A post is refused by the string's standing, or goes to the queue with its dose limit clamped (R45, R46). -/
theorem post_eq (e : QueueEntry) (s : State) :
    post e s =
      if !isInstalled s e.string || !isPresent s (nodeOf e.string) then (s, .refused .absent)
      else if (recordOf s e.string).state.barCause.isSome || (recordOf s e.string).state.pendingBar.isSome then
        (s, .refused .barred)
      else if runningFor e.kind (recordOf s e.string).state then (s, .refused .running)
      else judgePost { e with work := clampWork s.settings.dmax e.work } s := by
  rw [post, standing_eq]
  split_ifs <;> rfl

/-! ### Bars (R12 to R14) -/

/-- DETACH FAILED and CLOSE FAILED alone replace an earlier cause (R13, R14). -/
theorem joinBar_some (old c : BarCause) :
    joinBar (some old) c = if c = .detachFailed ∨ c = .closeFailed then c else old := by
  cases c <;> rfl

theorem bar_notInstalled (i : StringNo) (c : BarCause) (s : State) (h : isInstalled s i = false) :
    bar i c s = s := by
  simp [bar, h]

/-- A bar on an installed string, by its condition: the states of R12, R13 and R14. -/
theorem bar_installed (i : StringNo) (c : BarCause) (s : State) (h : isInstalled s i = true) :
    bar i c s =
      match (recordOf s i).state with
      | .float | .settle _ => removeBarred i (setStringState i (.barred c) s)
      | .equalise b => barEqualised i b c s
      | .water b => barWatered i b c s
      | .barred old => setStringState i (.barred (joinBar (some old) c)) s := by
  simp only [bar, h]
  rfl

/-- A first bar on a string the Equalise Channel holds aborts its round, and a further one does not (R13). -/
theorem barEqualised_none (i : StringNo) (c : BarCause) (s : State) :
    barEqualised i none c s =
      decideEqualise (.aborted c.abortCause) (removeBarred i (setStringState i (.equalise (some c)) s)) := rfl

theorem barEqualised_some (i : StringNo) (old c : BarCause) (s : State) :
    barEqualised i (some old) c s =
      removeBarred i (setStringState i (.equalise (some (joinBar (some old) c))) s) := rfl

/-- A first bar on a string the Water Channel holds aborts its dose, and a further one does not (R13). -/
theorem barWatered_none (i : StringNo) (c : BarCause) (s : State) :
    barWatered i none c s =
      decideWater (.aborted c.abortCause) (removeBarred i (setStringState i (.water (some c)) s)) := rfl

theorem barWatered_some (i : StringNo) (old c : BarCause) (s : State) :
    barWatered i (some old) c s =
      removeBarred i (setStringState i (.water (some (joinBar (some old) c))) s) := rfl

/-! ### Requests that a port hears (R165) -/

theorem finOf_eq_none (n : Nat) (o : Octet) (h : n ≤ o.toNat) : finOf n o = none :=
  dif_neg (Nat.not_lt.mpr h)

/-- An operand that is the octet of a number in range names that number. -/
theorem finOf_ofNat (n : Nat) (h : n ≤ 256) (i : Fin n) : finOf n (BitVec.ofNat 8 i.val) = some i := by
  have hi : (BitVec.ofNat 8 i.val).toNat = i.val := by
    rw [BitVec.toNat_ofNat]
    exact Nat.mod_eq_of_lt (Nat.lt_of_lt_of_le i.isLt h)
  simp [finOf, hi]

/-- A port in HUNT that takes a request frame owes the answer's reply in the answer's state (R164, R165). -/
theorem arrive_hears (p : Port) (tag : Octet) (r : Request) (s : State) (h : hears p s = true)
    (hl : r.params.length ≤ 62) :
    arrive p tag r s =
      owing p r.code tag (answer p r s).status (answer p r s).results (answer p r s).state := by
  have hrx : rxOf s p = .hunt := of_decide_eq_true h
  rw [arrive_hunt p tag r s hrx hl, serve_eq]

/-- A request the port may not carry is refused, whatever it asks (R165 step 1). -/
theorem arrive_notPermitted (p : Port) (tag : Octet) (r : Request) (s : State) (h : hears p s = true)
    (hl : r.params.length ≤ 62) (hp : permitted p r.code = false) :
    arrive p tag r s = owing p r.code tag .notPermitted [] s := by
  rw [arrive_hears p tag r s h hl, answer_notPermitted p r s hp, refuse]

/-- Of the three ports only Port S carries BAR STRING and UNBAR STRING (Table 10.3). -/
theorem permitted_bars (p : Port) (h : p ≠ .service) :
    permitted p 0x10 = false ∧ permitted p 0x11 = false := by
  cases p with
  | plant => exact ⟨rfl, rfl⟩
  | energy => exact ⟨rfl, rfl⟩
  | service => exact absurd rfl h

/-! ### BAR STRING and UNBAR STRING (R15, R16) -/

theorem exec_barString (p : Port) (tag string : Octet) (s : State) :
    exec (.barString p tag string) s = .next (arrive p tag (.barString string) s) := rfl

theorem exec_unbarString (p : Port) (tag string : Octet) (s : State) :
    exec (.unbarString p tag string) s = .next (arrive p tag (.unbarString string) s) := rfl

/-- BAR STRING heard at Port S is answered by the String Condition Table. -/
theorem exec_barString_service (tag string : Octet) (s : State) (h : hears .service s = true) :
    exec (.barString .service tag string) s = .next
      (owing .service 0x10 tag (answerBar string s).status (answerBar string s).results
        (answerBar string s).state) := by
  rw [exec_barString, arrive_hears .service tag _ s h (Nat.le_of_ble_eq_true rfl)]
  rfl

/-- UNBAR STRING heard at Port S is answered by the String Condition Table. -/
theorem exec_unbarString_service (tag string : Octet) (s : State) (h : hears .service s = true) :
    exec (.unbarString .service tag string) s = .next
      (owing .service 0x11 tag (answerUnbar string s).status (answerUnbar string s).results
        (answerUnbar string s).state) := by
  rw [exec_unbarString, arrive_hears .service tag _ s h (Nat.le_of_ble_eq_true rfl)]
  rfl

theorem answerBar_range (string : Octet) (s : State) (h : 8 ≤ string.toNat) :
    answerBar string s = refuse .range s := by
  rw [answerBar, finOf_eq_none 8 string h]

theorem answerUnbar_range (string : Octet) (s : State) (h : 8 ≤ string.toNat) :
    answerUnbar string s = refuse .range s := by
  rw [answerUnbar, finOf_eq_none 8 string h]

/-- The table of R15: a held string answers ACCEPTED, every other installed one DONE. -/
theorem answerBar_eq (i : StringNo) (s : State) :
    answerBar (BitVec.ofNat 8 i.val) s =
      if !isInstalled s i then refuse .absent s
      else if (recordOf s i).state.holder = .none then done (judge (bar i .byRequest s))
      else accepted (judge (bar i .byRequest s)) := by
  simp only [answerBar, finOf_ofNat 8 (by decide) i]
  generalize (recordOf s i).state = st
  cases st <;> rfl

/-- The table of R16. -/
theorem answerUnbar_eq (i : StringNo) (s : State) :
    answerUnbar (BitVec.ofNat 8 i.val) s =
      if !isInstalled s i then refuse .absent s
      else if (recordOf s i).state.pendingBar.isSome then refuse .busy s
      else if (recordOf s i).state.barCause = none then refuse .notFound s
      else if s.eqc.attachment.holds i ∨ s.wac.valve.holds i then refuse .locked s
      else if !isPresent s (nodeOf i) then refuse .notPresent s
      else done (judge (setStringState i .float s)) := by
  simp only [answerUnbar, finOf_ofNat 8 (by decide) i]
  generalize (recordOf s i).state = st
  cases st with
  | float => rfl
  | settle n => rfl
  | equalise b => cases b <;> rfl
  | water b => cases b <;> rfl
  | barred c =>
    simp only [StringState.pendingBar, StringState.barCause, Option.isSome_none, Bool.or_eq_true,
      Bool.false_eq_true, reduceCtorEq, if_false]

/-! ### The statements -/

/-- Settles O16: the standing of R19 gives the refusals, and a post on a clear string is judged by the queue (R46). -/
theorem postIsJudged : Obligations.PostIsJudged := by
  intro s e st work p
  have hp : { e with work := clampWork s.settings.dmax e.work } = p := by
    simp only [p, work]
    cases e.work <;> rfl
  have hkind : p.kind = e.kind := by rw [← hp]; exact clampWork_kind s.settings.dmax e.work
  rw [post_eq, hp]
  refine congrArg (ite _ _) (congrArg (ite _ _) (congrArg (ite _ _) ?_))
  by_cases hany : (s.queue.any fun x => x.same e.kind e.string) = true
  · rw [if_pos hany, judgePost_merges p s (hkind ▸ hany), hkind]
    rfl
  · rw [if_neg hany, judgePost_joins p s (hkind ▸ hany)]
    simp only [displace_eq]
    rfl

/-- Settles O19, by the condition of the string; `cancelEntry` is the step of the removal the statement writes out. -/
theorem barIsTaken : Obligations.BarIsTaken := by
  intro s i c put join cleared
  have hjoin (old : BarCause) : joinBar (some old) c = join old := joinBar_some old c
  cases hin : isInstalled s i with
  | false => exact bar_notInstalled i c s hin
  | true =>
    rw [bar_installed i c s hin]
    cases (recordOf s i).state with
    | float => rfl
    | settle n => rfl
    | equalise b =>
      cases b with
      | none => exact barEqualised_none i c s
      | some old => simp only [barEqualised_some, hjoin]; rfl
    | water b =>
      cases b with
      | none => exact barWatered_none i c s
      | some old => simp only [barWatered_some, hjoin]; rfl
    | barred old => simp only [hjoin]; rfl

/-- Settles O20, from the tables of R15 and R16. -/
theorem barAndUnbarAnswer : Obligations.BarAndUnbarAnswer := by
  refine ⟨fun s tag string hs hr => ⟨?_, ?_⟩, fun s p tag string hp hs => ⟨?_, ?_⟩,
    fun s tag i hs => ⟨?_, ?_⟩⟩
  · rw [exec_barString_service tag string s hs, answerBar_range string s hr, refuse]
  · rw [exec_unbarString_service tag string s hs, answerUnbar_range string s hr, refuse]
  · rw [exec_barString]
    exact congrArg _ (arrive_notPermitted p tag _ s hs (Nat.le_of_ble_eq_true rfl) (permitted_bars p hp).1)
  · rw [exec_unbarString]
    exact congrArg _ (arrive_notPermitted p tag _ s hs (Nat.le_of_ble_eq_true rfl) (permitted_bars p hp).2)
  · rw [exec_barString_service tag _ s hs, answerBar_eq]
    split_ifs <;> rfl
  · rw [exec_unbarString_service tag _ s hs, answerUnbar_eq]
    split_ifs <;> rfl

end Sys2Proof.Laws
end

section
/-! SUPPORT. Chapter 3: CANCEL ROUND, by what the queue holds and else by who holds the string, with the proof of its
statement. -/

namespace Sys2Proof.Laws

open Sys2Proof.Machine

/-! ### CANCEL ROUND (R52) -/

theorem exec_cancelRound (p : Port) (tag kind string : Octet) (s : State) :
    exec (.cancelRound p tag kind string) s = .next (arrive p tag (.cancelRound kind string) s) := rfl

/-- Of the three ports only Port S carries CANCEL ROUND (Table 10.3). -/
theorem permitted_cancelRound (p : Port) (h : p ≠ .service) : permitted p 0x0F = false := by
  cases p with
  | plant => rfl
  | energy => rfl
  | service => exact absurd rfl h

/-- The kind octet passes the shape of R165, so the queue's owner judges the request. -/
theorem answer_cancelRound (kind string : Octet) (s : State) (hk : kind.toNat ≤ 1) :
    answer .service (.cancelRound kind string) s = answerCancelRound kind string s := by
  have hshape : (Request.cancelRound kind string).wellShaped = true := decide_eq_true hk
  simp only [answer, hshape]
  rfl

/-- CANCEL ROUND heard at Port S is answered in the order of R52. -/
theorem exec_cancelRound_service (tag kind string : Octet) (s : State) (h : hears .service s = true)
    (hk : kind.toNat ≤ 1) :
    exec (.cancelRound .service tag kind string) s = .next
      (owing .service 0x0F tag (answerCancelRound kind string s).status (answerCancelRound kind string s).results
        (answerCancelRound kind string s).state) := by
  rw [exec_cancelRound, arrive_hears .service tag _ s h (Nat.le_of_ble_eq_true rfl),
    answer_cancelRound kind string s hk]
  rfl

theorem answerCancelRound_range (kind string : Octet) (s : State) (h : 8 ≤ string.toNat) :
    answerCancelRound kind string s = refuse .range s := by
  rw [answerCancelRound, finOf_eq_none 8 string h]

/-- The octet of a kind, 0 for EQUALISE and 1 for WATER, is in shape and names that kind (Table 10.10). -/
theorem kindOctet_toNat_le (k : Kind) : (if k = .equalise then 0 else 1 : Octet).toNat ≤ 1 := by
  cases k <;> decide

@[simp] theorem kindOf_kindOctet (k : Kind) : kindOf (if k = .equalise then 0 else 1) = k := by
  cases k <;> rfl

/-- The entry found is the one of the kind and string asked for (R44). -/
theorem findEntry_kind_string (k : Kind) (i : StringNo) (q : List QueueEntry) (e : QueueEntry)
    (h : findEntry k i q = some e) : e.kind = k ∧ e.string = i :=
  of_decide_eq_true (List.find?_some (p := fun x : QueueEntry => x.same k i) h)

/-- A waiting entry is withdrawn and logged CANCELLED with cause REQUEST, and dispatch is judged (R52, order 2). -/
theorem answerCancelRound_waiting (k : Kind) (i : StringNo) (s : State) (e : QueueEntry)
    (h : findEntry k i s.queue = some e) :
    answerCancelRound (if k = .equalise then 0 else 1) (BitVec.ofNat 8 i.val) s =
      done (judge (logWrite (entryRecord .cancelled (some .cancelled) (some .request) e (dropEntry k i s))
        (dropEntry k i s))) := by
  obtain ⟨hkind, hstring⟩ := findEntry_kind_string k i s.queue e h
  simp only [answerCancelRound, finOf_ofNat 8 (by decide) i, kindOf_kindOctet, h, cancelEntry, hkind, hstring]

/-- With no entry waiting, the round that holds the string is judged (R52, orders 3 to 5). -/
theorem answerCancelRound_notWaiting (k : Kind) (i : StringNo) (s : State) (h : findEntry k i s.queue = none) :
    answerCancelRound (if k = .equalise then 0 else 1) (BitVec.ofNat 8 i.val) s = cancelRunning k i s := by
  simp only [answerCancelRound, finOf_ofNat 8 (by decide) i, kindOf_kindOctet, h]

/-- Orders 3 to 5 of R52 by the holder of the string: only a round of the kind asked for is ended. -/
theorem cancelRunning_eq (k : Kind) (i : StringNo) (s : State) :
    cancelRunning k i s =
      if k = .equalise ∧ (recordOf s i).state.holder = .eqc then
        if (openRound s).isSome then accepted (judge (decideEqualise .cancelled s)) else refuse .busy s
      else if k = .water ∧ (recordOf s i).state.holder = .wac then
        if (openDose s).isSome then accepted (judge (decideWater .cancelled s)) else refuse .busy s
      else refuse .notFound s := by
  unfold cancelRunning
  generalize (recordOf s i).state = st
  cases st with
  | equalise b => cases k <;> rfl
  | water b => cases k <;> rfl
  | float => cases k <;> rfl
  | settle n => cases k <;> rfl
  | barred c => cases k <;> rfl

/-- Settles O18: the range of the string first, then the entry in the queue, then the holder of the string (R52). -/
theorem cancelRoundWithdraws : Obligations.CancelRoundWithdraws := by
  refine ⟨fun s tag kind string hs hk hr => ?_, fun s tag k i hs => ?_, fun s p tag kind string hp hs => ?_⟩
  · rw [exec_cancelRound_service tag kind string s hs hk, answerCancelRound_range kind string s hr, refuse]
  · rw [exec_cancelRound_service tag _ _ s hs (kindOctet_toNat_le k)]
    cases hq : findEntry k i s.queue with
    | some e => rw [answerCancelRound_waiting k i s e hq]; rfl
    | none =>
      rw [answerCancelRound_notWaiting k i s hq, cancelRunning_eq]
      split_ifs <;> rfl
  · rw [exec_cancelRound]
    exact congrArg _ (arrive_notPermitted p tag _ s hs (Nat.le_of_ble_eq_true rfl) (permitted_cancelRound p hp))

end Sys2Proof.Laws
end

section
/-! SUPPORT. Chapter 5, stages 1 to 3 (R89 to R92): the setpoint and its bounds, with the proof of the statement. -/

namespace Sys2Proof.Laws

open Sys2Proof.Machine

/-! ### Clamping -/

/-- Over a range that is not empty, clamping is the library's `max` and `min`. -/
theorem clampTo_eq_max_min (lo hi x : Int) (h : lo ≤ hi) : clampTo lo hi x = max lo (min hi x) := by
  unfold clampTo
  split_ifs <;> omega

theorem le_clampTo (lo hi x : Int) (h : lo ≤ hi) : lo ≤ clampTo lo hi x := by
  rw [clampTo_eq_max_min lo hi x h]
  exact le_max_left lo _

theorem clampTo_le (lo hi x : Int) (h : lo ≤ hi) : clampTo lo hi x ≤ hi := by
  rw [clampTo_eq_max_min lo hi x h]
  exact max_le h (min_le_left hi x)

theorem clampTo_mono (lo hi x y : Int) (h : lo ≤ hi) (hxy : x ≤ y) : clampTo lo hi x ≤ clampTo lo hi y := by
  rw [clampTo_eq_max_min lo hi x h, clampTo_eq_max_min lo hi y h]
  exact max_le_max_left lo (min_le_min_left hi hxy)

/-! ### Stage 1 (R89) -/

theorem freshTemp_of_fresh (s : State) (i : StringNo) (h : tempFresh s i = true) :
    freshTemp s i = some (recordOf s i).temperature :=
  if_pos h

theorem freshTemp_of_stale (s : State) (i : StringNo) (h : tempFresh s i = false) : freshTemp s i = none :=
  if_neg (by simp [h])

/-- No compensation temperature is above the stale one. -/
theorem compensationTemp_le_stale (fresh : Option Int) : compensationTemp fresh ≤ compensationTemp none := by
  cases fresh with
  | none => exact le_rfl
  | some t => exact clampTo_le 0 500 t (by decide)

/-! ### Stage 2 (R90) -/

theorem le_voltageTarget (rc : Recipe) (tc : Int) (h : 2200 ≤ rc.vmax) : 52800 ≤ voltageTarget rc tc := by
  have hcell := le_clampTo 2200 rc.vmax (rc.vt25 + Int.tdiv (rc.k * (tc - 250)) 100) (by exact_mod_cast h)
  unfold voltageTarget
  omega

theorem voltageTarget_le (rc : Recipe) (tc : Int) (h : 2200 ≤ rc.vmax) : voltageTarget rc tc ≤ 24 * rc.vmax := by
  have hcell := clampTo_le 2200 rc.vmax (rc.vt25 + Int.tdiv (rc.k * (tc - 250)) 100) (by exact_mod_cast h)
  unfold voltageTarget
  omega

/-- With a compensation that is not positive the target does not rise with the temperature: truncation and clamp keep
the order. -/
theorem voltageTarget_anti (rc : Recipe) (cold warm : Int) (h : 2200 ≤ rc.vmax) (hk : rc.k ≤ 0) (hle : cold ≤ warm) :
    voltageTarget rc warm ≤ voltageTarget rc cold := by
  have hdelta : rc.k * (warm - 250) ≤ rc.k * (cold - 250) :=
    mul_le_mul_of_nonpos_left (sub_le_sub_right hle 250) hk
  have htrunc : Int.tdiv (rc.k * (warm - 250)) 100 ≤ Int.tdiv (rc.k * (cold - 250)) 100 :=
    Int.tdiv_le_tdiv (by decide) hdelta
  exact Nat.mul_le_mul_left 24 (Int.toNat_le_toNat
    (clampTo_mono 2200 rc.vmax _ _ (by exact_mod_cast h) (add_le_add_right htrunc _)))

/-! ### Stage 3 (R91, R92) -/

theorem budgetAvailable_le (s : State) : budgetAvailable s ≤ s.plant.budget := by
  unfold budgetAvailable
  split_ifs <;> omega

theorem budgetAvailable_closed (s : State) (h : s.plant.windowOpen = false) : budgetAvailable s = 0 := by
  simp [budgetAvailable, h]

/-- The budget current takes no more power than the budget it comes from. -/
theorem budgetCurrent_mul_le (bav vs : Nat) : budgetCurrent bav vs * max vs 43200 ≤ bav * 10000 :=
  Nat.div_mul_le_self _ _

theorem leastCurrent_eq (rc : Recipe) (ibud : Nat) (headroom : Int) :
    leastCurrent rc ibud headroom = min rc.ilim (min ibud headroom.toNat) := by
  unfold leastCurrent
  omega

theorem permittedCurrent_le_least (s : State) (rc : Recipe) (fresh : Option Int) (vs : Nat) :
    permittedCurrent s rc fresh vs ≤
      leastCurrent rc (budgetCurrent (budgetAvailable s) vs) s.plant.headroom := by
  cases fresh with
  | none => exact le_rfl
  | some t =>
    simp only [permittedCurrent]
    split_ifs
    · exact Nat.div_le_self _ 2
    · exact le_rfl

/-- The permitted current is above none of its three limits (R91). -/
theorem permittedCurrent_le_limits (s : State) (rc : Recipe) (fresh : Option Int) (vs : Nat) :
    permittedCurrent s rc fresh vs ≤ rc.ilim
      ∧ permittedCurrent s rc fresh vs ≤ budgetCurrent (budgetAvailable s) vs
      ∧ permittedCurrent s rc fresh vs ≤ s.plant.headroom.toNat := by
  simpa only [leastCurrent_eq, le_min_iff] using permittedCurrent_le_least s rc fresh vs

/-- The permitted current draws at most the window budget at the clamped voltage. -/
theorem permittedCurrent_mul_le_budget (s : State) (rc : Recipe) (fresh : Option Int) (vs : Nat) :
    permittedCurrent s rc fresh vs * max vs 43200 ≤ s.plant.budget * 10000 := by
  obtain ⟨-, hbud, -⟩ := permittedCurrent_le_limits s rc fresh vs
  calc permittedCurrent s rc fresh vs * max vs 43200
      ≤ budgetCurrent (budgetAvailable s) vs * max vs 43200 := Nat.mul_le_mul_right _ hbud
    _ ≤ budgetAvailable s * 10000 := budgetCurrent_mul_le _ vs
    _ ≤ s.plant.budget * 10000 := Nat.mul_le_mul_right _ (budgetAvailable_le s)

theorem permittedCurrent_closed (s : State) (rc : Recipe) (fresh : Option Int) (vs : Nat)
    (h : s.plant.windowOpen = false) : permittedCurrent s rc fresh vs = 0 := by
  obtain ⟨-, hbud, -⟩ := permittedCurrent_le_limits s rc fresh vs
  rwa [budgetAvailable_closed s h, budgetCurrent, Nat.zero_mul, Nat.zero_div, Nat.le_zero] at hbud

/-! ### The setpoint -/

theorem setpointAt_of_fresh (s : State) (r : Round) (vs : Nat) (h : tempFresh s r.string = true) :
    setpointAt s r vs =
      { target := voltageTarget r.recipe (clampTo 0 500 (recordOf s r.string).temperature)
        perm :=
          if (r.recipe.derateTemp : Int) ≤ (recordOf s r.string).temperature then
            leastCurrent r.recipe (budgetCurrent (budgetAvailable s) vs) s.plant.headroom / 2
          else leastCurrent r.recipe (budgetCurrent (budgetAvailable s) vs) s.plant.headroom } := by
  rw [setpointAt, freshTemp_of_fresh s r.string h]
  rfl

theorem setpointAt_of_stale (s : State) (r : Round) (vs : Nat) (h : tempFresh s r.string = false) :
    setpointAt s r vs =
      { target := voltageTarget r.recipe 500
        perm := leastCurrent r.recipe (budgetCurrent (budgetAvailable s) vs) s.plant.headroom } := by
  rw [setpointAt, freshTemp_of_stale s r.string h]
  rfl

/-- Settles O26: the stages by the freshness of the temperature, then each bound from the stage that sets it. -/
theorem setpointIsComputed : Obligations.SetpointIsComputed := by
  refine ⟨fun s r vs => ?_, fun s r vs hvmax hk => ?_⟩
  · intro old fresh tc cell bav headroom least
    cases hf : tempFresh s r.string with
    | true =>
      have hfresh : fresh = true := hf
      rw [setpointAt_of_fresh s r vs hf, leastCurrent_eq]
      simp only [cell, tc, hfresh, true_and, if_true]
      rfl
    | false =>
      have hfresh : fresh = false := hf
      rw [setpointAt_of_stale s r vs hf, leastCurrent_eq]
      simp only [cell, tc, hfresh, Bool.false_eq_true, false_and, if_false]
      rfl
  · obtain ⟨hilim, -, hheadroom⟩ := permittedCurrent_le_limits s r.recipe (freshTemp s r.string) vs
    exact ⟨le_voltageTarget r.recipe _ hvmax, voltageTarget_le r.recipe _ hvmax,
      voltageTarget_anti r.recipe _ _ hvmax hk (compensationTemp_le_stale _),
      hilim, permittedCurrent_mul_le_budget s r.recipe _ vs,
      by simp only [setpointAt]; omega, permittedCurrent_closed s r.recipe _ vs⟩

end Sys2Proof.Laws
end

section
/-! SUPPORT. What a step can do to the parts that outlive it, said once: a relation between states that the basic
updates keep is kept by every command. -/

namespace Sys2Proof.Laws

open Sys2Proof.Machine

/-! ### The basic updates -/

/-- `t` has the strings, the queue, the round, the dose, the demand FIFO, the log, the settings, the store and the
waiting commands of `s`. -/
def quiet (s t : State) : Prop :=
  t.strings = s.strings ∧ t.queue = s.queue ∧ t.eqc.round = s.eqc.round ∧ t.wac.dose = s.wac.dose
    ∧ t.demand.fifo = s.demand.fifo ∧ t.log = s.log ∧ t.settings = s.settings ∧ t.store = s.store
    ∧ t.pending = s.pending

/-- What may become of a string record: its ranges stay, it is closed to the queue only if it was, and it settles no
longer than it did or than the recipe of the round gives (R10). -/
def recordKept (s : State) (r r' : StringRecord) : Prop :=
  (recordInRange r → recordInRange r') ∧ (closedToQueue r' → closedToQueue r)
    ∧ (r'.state.remaining ≤ r.state.remaining
      ∨ ∃ x, s.eqc.round = some x ∧ r'.state.remaining = x.recipe.settleTime)

/-- What may become of a round that goes on: its recipe, its number and an outcome decided stay (R60, R61, R74). -/
def roundKept (r r' : Round) : Prop :=
  r'.recipe = r.recipe ∧ r'.number = r.number ∧ (r.outcome.isSome → r'.outcome = r.outcome)

/-- What may become of a dose that goes on (R61, R110). -/
def doseKept (d d' : Dose) : Prop :=
  d'.number = d.number ∧ (d.outcome.isSome → d'.outcome = d.outcome)

/-- A relation between states that can be chained and that the basic updates keep, but for the beginning of a round. -/
structure Basic (R : State → State → Prop) : Prop where
  refl : ∀ s, R s s
  trans : ∀ {s t u}, R s t → R t u → R s u
  ofQuiet : ∀ {s t}, quiet s t → R s t
  records : ∀ (s : State) (v : Vector StringRecord 8),
    (∀ i : StringNo, recordKept s s.strings[i] v[i]) → R s { s with strings := v }
  barString : ∀ i st s, st.remaining = 0 → R s (removeBarred i (setStringState i st s))
  filterQueue : ∀ (p : QueueEntry → Bool) (s : State), R s { s with queue := s.queue.filter p }
  mapQueue : ∀ (f : QueueEntry → QueueEntry) (s : State),
    (∀ e, (f e).kind = e.kind ∧ (f e).string = e.string) → R s { s with queue := s.queue.map f }
  posted : ∀ e s, R s (post e s).1
  changeRound : ∀ r r' s, s.eqc.round = some r → roundKept r r' → R s (setRound r' s)
  noRound : ∀ s, R s (modEqc (fun e => { e with round := none }) s)
  changeDose : ∀ d d' s, s.wac.dose = some d → doseKept d d' → R s (setDose d' s)
  noDose : ∀ s, R s (modWac (fun w => { w with dose := none }) s)
  changeFifo : ∀ (l : List FifoEntry) (s : State),
    l.length ≤ s.demand.fifo.length ∨ l.length ≤ Config.fifoCapacity →
      R s (modDemand (fun d => { d with fifo := l }) s)
  logged : ∀ r s, R s (logWrite r s)
  logFlags : ∀ (s : State) (a b : Vector Bool 4), R s { s with log := { s.log with full := a, overrun := b } }
  written : ∀ s x v t, judgeWrite s x v = .taken t →
    R s { s with settings := t, store := { s.store with modified := true } }
  changeStore : ∀ (s : State) (x : Store), x.copy = s.store.copy ∨ x.copy = s.settings → R s { s with store := x }

/-- One that the claim of the Equalise Channel keeps too. -/
structure Judged (R : State → State → Prop) : Prop extends Basic R where
  roundBegins : ∀ e rn s, selectEqualise s = some e → e.work = .equalise rn → R s (beginRound e rn s)

/-- One that the claim of the Water Channel and the resets keep too. -/
structure Whole (R : State → State → Prop) : Prop extends Judged R where
  doseBegins : ∀ e n s, eligibleWater s e → R s (beginDose e n s)
  poweredOn : ∀ straps s, R s (takePowerOn straps s)
  pinWasReset : ∀ straps s, R s (takePinReset straps s)

variable {R : State → State → Prop} {s u : State}

namespace Basic

/-- A quiet update after what has been kept so far. -/
theorem quietly (K : Basic R) {t : State} (h : R s u) (q : quiet u t) : R s t :=
  K.trans h (K.ofQuiet q)

/-! ### The log and the queue -/

theorem logWrite (K : Basic R) (r : LogRecord) (h : R s u) : R s (logWrite r u) :=
  K.trans h (K.logged r u)

theorem dropEntry (K : Basic R) (k : Kind) (i : StringNo) (h : R s u) : R s (dropEntry k i u) :=
  K.trans h (K.filterQueue _ u)

theorem cancelEntry (K : Basic R) (c : Cause) (e : QueueEntry) (h : R s u) : R s (cancelEntry c e u) :=
  K.logWrite _ (K.dropEntry _ _ h)

theorem post (K : Basic R) (e : QueueEntry) (h : R s u) : R s (post e u).1 :=
  K.trans h (K.posted e u)

theorem raise (K : Basic R) (n : Notice) (h : R s u) : R s (raise n u) :=
  K.quietly h (by simp [quiet])

theorem modEqc (K : Basic R) {f : Eqc → Eqc} (hf : ∀ e, (f e).round = e.round) (h : R s u) : R s (modEqc f u) :=
  K.quietly h (by simp [quiet, hf])

theorem modWac (K : Basic R) {f : Wac → Wac} (hf : ∀ w, (f w).dose = w.dose) (h : R s u) : R s (modWac f u) :=
  K.quietly h (by simp [quiet, hf])

theorem modDemand (K : Basic R) {f : DemandUnit → DemandUnit} (hf : ∀ d, (f d).fifo = d.fifo) (h : R s u) :
    R s (modDemand f u) :=
  K.quietly h (by simp [quiet, hf])

theorem modLoop (K : Basic R) (f : Loop → Loop) (h : R s u) : R s (modLoop f u) :=
  K.quietly h (by simp [quiet])

theorem modPlant (K : Basic R) (f : PlantUnit → PlantUnit) (h : R s u) : R s (modPlant f u) :=
  K.quietly h (by simp [quiet])

theorem modSweep (K : Basic R) (f : Sweep → Sweep) (h : R s u) : R s (modSweep f u) :=
  K.quietly h (by simp [quiet])

theorem setRx (K : Basic R) (p : Port) (x : RxState) (h : R s u) : R s (setRx p x u) :=
  K.quietly h (by simp [quiet])

/-! ### String records -/

theorem modString (K : Basic R) (i : StringNo) (f : StringRecord → StringRecord)
    (hf : recordKept u (recordOf u i) (f (recordOf u i))) (h : R s u) : R s (modString i f u) := by
  refine K.trans h (K.records u (u.strings.set i (f u.strings[i])) fun j => ?_)
  by_cases hij : i = j
  · subst hij
    simpa [recordOf] using hf
  · have hne : i.val ≠ j.val := fun h => hij (Fin.ext h)
    simp only [Fin.getElem_fin, Vector.getElem_set, hne, if_false]
    exact ⟨id, id, .inl le_rfl⟩

/-- A state that closes the string to the queue only where it was closed, and brings no settle time but the round's. -/
theorem setStringState (K : Basic R) (i : StringNo) (st : StringState)
    (hc : st.barCause.isSome ∨ st.pendingBar.isSome → closedToQueue (recordOf u i))
    (hs : st.remaining = 0 ∨ ∃ x, u.eqc.round = some x ∧ st.remaining = x.recipe.settleTime) (h : R s u) :
    R s (setStringState i st u) := by
  refine K.modString i _ ⟨id, fun hst => hc (by simpa [closedToQueue] using hst), ?_⟩ h
  rcases hs with h0 | hx
  · exact .inl (by simp [h0])
  · exact .inr hx

theorem takeEqualiseOutcome (K : Basic R) (i : StringNo) (o : EqOutcome) (h : R s u) :
    R s (takeEqualiseOutcome i o u) := by
  refine K.modString i _ ?_ h
  cases o.completes <;> simp +contextual [recordKept, recordInRange, closedToQueue]

theorem takeWaterOutcome (K : Basic R) (i : StringNo) (o : WaterOutcome) (n : Nat) (h : R s u) :
    R s (takeWaterOutcome i o n u) := by
  refine K.modString i _ ?_ h
  cases o.completes <;> simp +contextual [recordKept, recordInRange, closedToQueue, satAdd]

/-- A release ends in FLOAT, in BARRED, or in SETTLE for the settle time given (R10). -/
theorem releasedState_remaining (b m : Option BarCause) (n : Option Nat) :
    (releasedState b m n).remaining = 0 ∨ n = some (releasedState b m n).remaining := by
  unfold releasedState
  split <;> simp [StringState.remaining]

end Basic

end Sys2Proof.Laws
end

section
/-! SUPPORT. The basic updates, in the Equalise Channel: every relation that they keep is kept by what the channel does. -/

namespace Sys2Proof.Laws

open Sys2Proof.Machine

variable {R : State → State → Prop} {s u : State}

namespace Basic
theorem releaseString (K : Basic R) (i : StringNo) (m : Option BarCause) (n : Option Nat)
    (hn : n = none ∨ ∃ x, u.eqc.round = some x ∧ n = some x.recipe.settleTime) (h : R s u) :
    R s (releaseString i m n u) := by
  have held (b : Option BarCause) (hb : (recordOf u i).state.pendingBar = b) :
      R s (if m.isSome && b.isNone then removeBarred i (Machine.setStringState i (releasedState b m n) u)
        else Machine.setStringState i (releasedState b m n) u) := by
    split
    · rename_i hm
      refine K.trans h (K.barString i _ u ?_)
      cases m <;> cases b <;> simp_all [releasedState, StringState.remaining]
    · rename_i hm
      refine K.setStringState i _ (fun hc => ?_) ?_ h
      · unfold releasedState at hc
        cases b with
        | some c => simp [closedToQueue, hb]
        | none => split at hc <;> simp_all [StringState.barCause, StringState.pendingBar]
      · rcases releasedState_remaining b m n with h0 | hr
        · exact .inl h0
        · rcases hn with hn | ⟨x, hx, hn⟩
          · rw [hn] at hr; cases hr
          · exact .inr ⟨x, hx, Option.some.inj (hr.symm.trans hn)⟩
  unfold Machine.releaseString
  split
  · rename_i b hst
    exact held b (by rw [hst]; rfl)
  · rename_i b hst
    exact held b (by rw [hst]; rfl)
  · exact h

/-! ### The Equalise Channel (Machine/Equalise.lean) -/

theorem setRound (K : Basic R) {r r' : Round} (hr : u.eqc.round = some r) (hk : roundKept r r') (h : R s u) :
    R s (setRound r' u) :=
  K.trans h (K.changeRound r r' u hr hk)

theorem modRound (K : Basic R) {f : Round → Round} (hf : ∀ r, roundKept r (f r)) (h : R s u) :
    R s (modRound f u) := by
  cases hr : u.eqc.round with
  | none => exact K.quietly h (by simp [quiet, Machine.modRound, hr])
  | some r =>
    have : Machine.modRound f u = Machine.setRound (f r) u := by
      simp [Machine.modRound, Machine.setRound, Machine.modEqc, hr]
    rw [this]
    exact K.setRound hr (hf r) h

theorem setEqcState (K : Basic R) (x : EqcState) (h : R s u) : R s (setEqcState x u) :=
  K.modEqc (fun _ => rfl) h

theorem setAttachment (K : Basic R) (l : LinkRecord) (h : R s u) : R s (setAttachment l u) :=
  K.modEqc (fun _ => rfl) h

theorem claimEqualise (K : Basic R) (j : EqJob) (h : R s u) : R s (claimEqualise j u) := K.modLoop _ h

theorem withdrawEqualise (K : Basic R) (h : R s u) : R s (withdrawEqualise u) := K.modLoop _ h

theorem stopTimer (K : Basic R) (h : R s u) : R s (stopTimer u) := K.modRound (fun _ => ⟨rfl, rfl, fun _ => rfl⟩) h

theorem enterEqcFault (K : Basic R) (h : R s u) : R s (enterEqcFault u) :=
  K.raise _ (K.setEqcState _ h)

theorem handDose (K : Basic R) (r : Round) (o : EqOutcome) (h : R s u) : R s (handDose r o u).1 := by
  unfold Machine.handDose
  dsimp only
  split_ifs
  · exact K.post _ h
  · exact h
  · exact h

/-- The round ends and its channel is IDLE. -/
theorem dropRound (K : Basic R) (x : EqcState) (h : R s u) :
    R s (Machine.modEqc (fun e => { e with round := none, state := x }) u) :=
  K.setEqcState x (K.trans h (K.noRound u))

theorem handOnRound (K : Basic R) {r : Round} (o : EqOutcome) (a b : Bool) (hr : u.eqc.round = some r) (h : R s u) :
    R s (handOnRound r o a b u) := by
  have end1 : R s (Machine.releaseString r.string (if a then some .detachFailed else none)
      (if o.completes then some r.recipe.settleTime else none) (Machine.takeEqualiseOutcome r.string o u)) := by
    refine K.releaseString _ _ _ ?_ (K.takeEqualiseOutcome _ _ h)
    cases o.completes
    · exact .inl rfl
    · exact .inr ⟨r, by simpa using hr, rfl⟩
  unfold Machine.handOnRound
  dsimp only
  split
  · exact K.enterEqcFault (K.dropRound _ (K.raise _ (K.logWrite _ (K.handDose _ _ end1))))
  · exact K.dropRound _ (K.raise _ (K.logWrite _ (K.handDose _ _ end1)))

theorem endRound (K : Basic R) (a b : Bool) (h : R s u) : R s (endRound a b u) := by
  unfold Machine.endRound decidedRound
  cases hr : u.eqc.round with
  | none => exact h
  | some r =>
    cases ho : r.outcome with
    | none => simpa [ho] using h
    | some o => simpa [ho] using K.handOnRound o a b hr h

theorem enterDetach (K : Basic R) (h : R s u) : R s (enterDetach u) :=
  K.claimEqualise _ (K.setEqcState _ (K.modRound (fun _ => ⟨rfl, rfl, fun _ => rfl⟩) h))

theorem stopDriving (K : Basic R) (h : R s u) : R s (stopDriving u) := by
  unfold Machine.stopDriving
  repeat' split
  all_goals first
    | exact h
    | exact K.enterDetach h
    | exact K.endRound _ _ (K.withdrawEqualise h)
    | exact K.stopTimer h
    | exact K.withdrawEqualise (K.stopTimer h)

theorem openRound_eq_some {s : State} {r : Round} (h : openRound s = some r) :
    s.eqc.round = some r ∧ r.outcome = none ∧ s.eqc.state ≠ .idle ∧ s.eqc.state ≠ .fault ∧ s.eqc.state ≠ .detach := by
  unfold openRound at h
  split at h
  case h_5 => cases h
  all_goals
    obtain ⟨hout, rfl⟩ : _ ∧ _ = r := by simpa using h
    simp_all

theorem decideEqualise (K : Basic R) (o : EqOutcome) (h : R s u) : R s (decideEqualise o u) := by
  unfold Machine.decideEqualise
  split
  · rename_i r hr
    obtain ⟨hround, hout, -⟩ := openRound_eq_some hr
    exact K.stopDriving (K.setRound hround ⟨rfl, rfl, by simp [hout]⟩ h)
  · exact h

theorem boostDistrusted (K : Basic R) (c : Cause) (h : R s u) : R s (boostDistrusted c u) := by
  unfold Machine.boostDistrusted
  split
  · exact K.claimEqualise _ (K.enterEqcFault h)
  · exact h
  · exact K.decideEqualise _ (K.modRound (fun _ => ⟨rfl, rfl, fun _ => rfl⟩) h)

/-- Every change of the round context but a decision leaves recipe, number and outcome. -/
theorem roundKept_of_eq {r r' : Round} (h1 : r'.recipe = r.recipe) (h2 : r'.number = r.number)
    (h3 : r'.outcome = r.outcome) : roundKept r r' := ⟨h1, h2, fun _ => h3⟩

theorem resumeRound (K : Basic R) {r : Round} (hr : u.eqc.round = some r) (h : R s u) : R s (resumeRound r u) := by
  unfold Machine.resumeRound
  dsimp only
  split
  · exact K.setRound hr (roundKept_of_eq rfl rfl rfl) h
  · exact K.setEqcState _ (K.setRound hr (roundKept_of_eq rfl rfl rfl) h)

theorem resumeIfClear (K : Basic R) (h : R s u) : R s (resumeIfClear u) := by
  unfold Machine.resumeIfClear
  split
  · rename_i r _ hr
    split
    · exact K.resumeRound (openRound_eq_some hr).1 h
    · exact h
  · exact h

theorem enterPaused (K : Basic R) (ph : Phase) (h : R s u) : R s (enterPaused ph u) :=
  K.resumeIfClear (K.raise _ (K.setEqcState _ (K.modRound (fun _ => roundKept_of_eq rfl rfl rfl) h)))

theorem placePauseStandby (K : Basic R) (h : R s u) : R s (placePauseStandby u) :=
  K.claimEqualise _ (K.modRound (fun _ => roundKept_of_eq rfl rfl rfl) h)

theorem takePause (K : Basic R) (h : R s u) : R s (takePause u) := by
  have h1 := K.stopTimer h
  unfold Machine.takePause
  dsimp only
  split
  · exact h1
  · exact K.modRound (fun _ => roundKept_of_eq rfl rfl rfl) h1
  · split
    · exact h1
    · exact K.placePauseStandby h1

theorem addPause (K : Basic R) (c : PauseCause) (h : R s u) : R s (addPause c u) := by
  unfold Machine.addPause
  split
  · exact h
  · rename_i r hr
    have h1 : R s (Machine.setRound { r with pauses := r.pauses.put c true } u) :=
      K.setRound (openRound_eq_some hr).1 (roundKept_of_eq rfl rfl rfl) h
    dsimp only
    repeat' split
    all_goals first
      | exact K.takePause h1
      | exact h1

theorem removePause (K : Basic R) (c : PauseCause) (h : R s u) : R s (removePause c u) := by
  unfold Machine.removePause
  split
  · exact h
  · rename_i r hr
    exact K.resumeIfClear (K.setRound (openRound_eq_some hr).1 (roundKept_of_eq rfl rfl rfl) h)

theorem nextPeriod (K : Basic R) (h : R s u) : R s (nextPeriod u) := by
  have go (r : Round) (hr : openRound u = some r) :
      R s (if r.pauses.isEmpty && !r.pauseOwed then Machine.setRound { r with timer := startedTimer u } u
        else Machine.placePauseStandby u) := by
    split
    · exact K.setRound (openRound_eq_some hr).1 (roundKept_of_eq rfl rfl rfl) h
    · exact K.placePauseStandby h
  unfold Machine.nextPeriod
  split
  · rename_i r _ hr; exact go r hr
  · rename_i r _ hr; exact go r hr
  · exact h

theorem periodExpires (K : Basic R) {r : Round} (hr : u.eqc.round = some r) (h : R s u) :
    R s (periodExpires r u) := by
  unfold Machine.periodExpires
  dsimp only
  repeat' split
  all_goals first
    | exact K.claimEqualise _ (K.setRound hr (roundKept_of_eq rfl rfl rfl) h)
    | exact K.setRound hr (roundKept_of_eq rfl rfl rfl) h

theorem actOnVerdict (K : Basic R) (v : Verdict) (h : R s u) : R s (actOnVerdict v u) := by
  match v with
  | .continue => exact K.nextPeriod h
  | .enterHold => exact K.nextPeriod (K.setEqcState _ (K.modRound (fun _ => roundKept_of_eq rfl rfl rfl) h))
  | .lowEnergy => exact K.nextPeriod (K.modRound (fun _ => roundKept_of_eq rfl rfl rfl) h)
  | .decided o => exact K.decideEqualise o h

theorem setPointAnswered (K : Basic R) (rd : Reading) (h : R s u) : R s (setPointAnswered rd u) := by
  unfold Machine.setPointAnswered
  split
  · exact h
  · rename_i r hr
    dsimp only
    split
    · exact K.enterDetach (K.setRound hr (roundKept_of_eq rfl rfl rfl) h)
    · exact K.actOnVerdict _ (K.setRound hr (roundKept_of_eq rfl rfl rfl) h)

theorem setPointFailed (K : Basic R) (h : R s u) : R s (setPointFailed u) := by
  unfold Machine.setPointFailed
  split
  · exact h
  · rename_i r hr
    have held (x : Round) (hx : roundKept r x) : R s (Machine.setRound x u) := K.setRound hr hx h
    dsimp only
    split_ifs
    all_goals first
      | exact K.enterDetach (held _ (roundKept_of_eq rfl rfl rfl))
      | exact K.nextPeriod (held _ (roundKept_of_eq rfl rfl rfl))
      | exact K.decideEqualise _ (held _ (roundKept_of_eq rfl rfl rfl))

theorem attachEnded (K : Basic R) (i : StringNo) (o : TxOutcome) (h : R s u) : R s (attachEnded i o u) := by
  cases hr : u.eqc.round with
  | none =>
    have : Machine.attachEnded i o u = u := by cases o <;> simp [Machine.attachEnded, hr]
    rwa [this]
  | some r =>
    have hk : roundKept r (decideOnly (.aborted (attachFailure o)) r) := by
      refine ⟨rfl, rfl, fun hs => ?_⟩
      cases ho : r.outcome <;> simp_all [decideOnly]
    have failed : R s (if r.faultAtEnd then Machine.enterDetach
          (Machine.setRound (decideOnly (.aborted (attachFailure o)) r) u)
        else Machine.endRound false false (Machine.setRound (decideOnly (.aborted (attachFailure o)) r) u)) := by
      split
      · exact K.enterDetach (K.setRound hr hk h)
      · exact K.endRound _ _ (K.setRound hr hk h)
    have answered : R s (if r.outcome.isSome then Machine.enterDetach (Machine.setAttachment (.names i true) u)
        else Machine.claimEqualise .connectStandby (Machine.setAttachment (.names i true) u)) := by
      split
      · exact K.enterDetach (K.setAttachment _ h)
      · exact K.claimEqualise _ (K.setAttachment _ h)
    cases o <;> simpa only [Machine.attachEnded, hr, decideOnly] using by assumption

theorem connectStandbyEnded (K : Basic R) (o : TxOutcome) (h : R s u) : R s (connectStandbyEnded o u) := by
  unfold Machine.connectStandbyEnded
  split
  · split
    · exact K.enterDetach h
    · exact h
  · rename_i r hr
    have held (x : Round) (hx : roundKept r x) : R s (Machine.setRound x u) := K.setRound (openRound_eq_some hr).1 hx h
    dsimp only
    repeat' split
    · exact K.enterPaused _ (held _ (roundKept_of_eq rfl rfl rfl))
    · exact K.setEqcState _ (held _ (roundKept_of_eq rfl rfl rfl))
    · exact K.enterPaused _ h
    · exact K.decideEqualise _ h

theorem pauseStandbyEnded (K : Basic R) (o : TxOutcome) (h : R s u) : R s (pauseStandbyEnded o u) := by
  unfold Machine.pauseStandbyEnded
  repeat' split
  · exact K.enterDetach h
  · exact h
  · exact K.enterPaused _ h
  · exact K.placePauseStandby h

theorem refreshEnded (K : Basic R) (o : TxOutcome) (h : R s u) : R s (refreshEnded o u) := by
  unfold Machine.refreshEnded
  split
  · split
    · exact K.enterDetach h
    · exact h
  · rename_i r hr
    have held (x : Round) (hx : roundKept r x) : R s (Machine.setRound x u) := K.setRound (openRound_eq_some hr).1 hx h
    dsimp only
    repeat' split
    · exact held _ (roundKept_of_eq rfl rfl rfl)
    · exact K.removePause _ (held _ (roundKept_of_eq rfl rfl rfl))
    · exact held _ (roundKept_of_eq rfl rfl rfl)
    · exact K.decideEqualise _ (held _ (roundKept_of_eq rfl rfl rfl))

theorem detachEnded (K : Basic R) (o : TxOutcome) (h : R s u) : R s (detachEnded o u) := by
  unfold Machine.detachEnded
  repeat' split
  · exact h
  · exact K.endRound _ _ (K.setAttachment _ h)
  · exact K.endRound _ _ (K.setAttachment _ h)
  · exact K.endRound _ _ h

theorem faultDetachEnded (K : Basic R) (o : TxOutcome) (h : R s u) : R s (faultDetachEnded o u) := by
  unfold Machine.faultDetachEnded
  split <;> exact K.setAttachment _ h

end Basic

end Sys2Proof.Laws
end

section
/-! SUPPORT. The same for the Water Channel, for bars and clears, and for the course of a sweep. -/

namespace Sys2Proof.Laws

open Sys2Proof.Machine

variable {R : State → State → Prop} {s u : State}

namespace Basic

/-! ### The Water Channel (Machine/Water.lean) -/

theorem doseKept_of_eq {d d' : Dose} (h1 : d'.number = d.number) (h2 : d'.outcome = d.outcome) : doseKept d d' :=
  ⟨h1, fun _ => h2⟩

theorem setDose (K : Basic R) {d d' : Dose} (hd : u.wac.dose = some d) (hk : doseKept d d') (h : R s u) :
    R s (setDose d' u) :=
  K.trans h (K.changeDose d d' u hd hk)

theorem modDose (K : Basic R) {f : Dose → Dose} (hf : ∀ d, doseKept d (f d)) (h : R s u) : R s (modDose f u) := by
  cases hd : u.wac.dose with
  | none => exact K.quietly h (by simp [quiet, Machine.modDose, hd])
  | some d =>
    have : Machine.modDose f u = Machine.setDose (f d) u := by
      simp [Machine.modDose, Machine.setDose, Machine.modWac, hd]
    rw [this]
    exact K.setDose hd (hf d) h

theorem setWacState (K : Basic R) (x : WacState) (h : R s u) : R s (setWacState x u) := K.modWac (fun _ => rfl) h

theorem setValve (K : Basic R) (x : LinkRecord) (h : R s u) : R s (setValve x u) := K.modWac (fun _ => rfl) h

theorem setPump (K : Basic R) (x : PumpRecord) (h : R s u) : R s (setPump x u) := K.modWac (fun _ => rfl) h

theorem claimWater (K : Basic R) (j : WaterJob) (h : R s u) : R s (claimWater j u) := K.modLoop _ h

theorem withdrawWater (K : Basic R) (h : R s u) : R s (withdrawWater u) := K.modLoop _ h

theorem enterWacIdle (K : Basic R) (h : R s u) : R s (enterWacIdle u) := K.modWac (fun _ => rfl) h

theorem enterWacFault (K : Basic R) (h : R s u) : R s (enterWacFault u) := by
  unfold Machine.enterWacFault
  dsimp only
  refine K.raise _ ?_
  split
  · exact K.withdrawWater (K.modWac (fun _ => rfl) (K.modWac (fun _ => rfl) h))
  · exact K.withdrawWater (K.modWac (fun _ => rfl) h)
  · exact K.modWac (fun _ => rfl) h

theorem setReservoirLow (K : Basic R) (h : R s u) : R s (setReservoirLow u) :=
  K.modWac (fun w => by split <;> rfl) h

theorem judgeReservoir (K : Basic R) (n : Nat) (h : R s u) : R s (judgeReservoir n u) :=
  K.modWac (fun w => by dsimp only; split <;> rfl) h

theorem handOnDose (K : Basic R) (d : Dose) (o : WaterOutcome) (l : Leave) (b : Bool) (h : R s u) :
    R s (handOnDose d o l b u) := by
  have h1 := K.takeWaterOutcome d.string o d.delivered h
  have gone {v : State} (hv : R s v) : R s (Machine.modWac (fun w => { w with dose := none }) v) :=
    K.trans hv (K.noDose v)
  have left : R s (match l with
      | .released => Machine.releaseString d.string none none (Machine.takeWaterOutcome d.string o d.delivered u)
      | .closeFailed =>
        Machine.releaseString d.string (some .closeFailed) none (Machine.takeWaterOutcome d.string o d.delivered u)
      | .kept => Machine.takeWaterOutcome d.string o d.delivered u) := by
    cases l with
    | released => exact K.releaseString _ _ _ (.inl rfl) h1
    | closeFailed => exact K.releaseString _ _ _ (.inl rfl) h1
    | kept => exact h1
  unfold Machine.handOnDose
  dsimp only
  split
  · exact K.enterWacFault (gone (K.raise _ (K.logWrite _ left)))
  · exact K.enterWacIdle (gone (K.raise _ (K.logWrite _ left)))

theorem endDose (K : Basic R) (l : Leave) (b : Bool) (h : R s u) : R s (endDose l b u) := by
  unfold Machine.endDose
  split
  · exact K.handOnDose _ _ _ _ h
  · exact h

theorem closeStep (K : Basic R) (d : Dose) (h : R s u) : R s (closeStep d u) := by
  unfold Machine.closeStep
  split
  · exact K.claimWater _ (K.setWacState _ h)
  · exact K.endDose _ _ h

theorem endSequence (K : Basic R) (h : R s u) : R s (endSequence u) := by
  unfold Machine.endSequence
  split
  · exact h
  · rename_i d hd
    have h1 := K.withdrawWater (K.setDose (d' := { d with pollTimer := none, maxReached := false }) hd
      (doseKept_of_eq rfl rfl) h)
    dsimp only
    split
    · exact K.claimWater _ (K.setWacState _ h1)
    · exact K.closeStep _ h1

theorem stopDosing (K : Basic R) (h : R s u) : R s (stopDosing u) := by
  unfold Machine.stopDosing
  split
  · exact K.modDose (fun _ => doseKept_of_eq rfl rfl) h
  · exact K.endSequence h

theorem openDose_eq_some {s : State} {d : Dose} (h : openDose s = some d) :
    s.wac.dose = some d ∧ d.outcome = none ∧ s.wac.state ≠ .idle ∧ s.wac.state ≠ .fault ∧ s.wac.state ≠ .stop
      ∧ s.wac.state ≠ .close := by
  unfold openDose at h
  split at h
  case h_4 => cases h
  all_goals
    obtain ⟨hout, rfl⟩ : _ ∧ _ = d := by simpa using h
    simp_all

theorem decideWater (K : Basic R) (o : WaterOutcome) (h : R s u) : R s (decideWater o u) := by
  unfold Machine.decideWater
  split
  · rename_i d hd
    obtain ⟨hdose, hout, -⟩ := openDose_eq_some hd
    exact K.stopDosing (K.setDose hdose ⟨rfl, by simp [hout]⟩ h)
  · exact h

theorem flowLeak (K : Basic R) (h : R s u) : R s (flowLeak u) := by
  unfold Machine.flowLeak
  split
  · exact K.claimWater _ (K.enterWacFault h)
  · exact h
  · exact K.decideWater _ (K.modDose (fun _ => doseKept_of_eq rfl rfl) h)

/-- An outcome decided unless one was before (R106, R107). -/
theorem doseKept_getD (d : Dose) (o : WaterOutcome) : doseKept d { d with outcome := some (d.outcome.getD o) } := by
  refine ⟨rfl, fun hs => ?_⟩
  cases ho : d.outcome <;> simp_all

theorem openValveEnded (K : Basic R) (i : StringNo) (o : TxOutcome) (h : R s u) : R s (openValveEnded i o u) := by
  cases hd : u.wac.dose with
  | none =>
    have : Machine.openValveEnded i o u = u := by cases o <;> simp [Machine.openValveEnded, hd]
    rwa [this]
  | some d =>
    have failed := fun c => K.endSequence (K.setDose hd (doseKept_getD d c) h)
    have answered : R s (if d.outcome.isSome then Machine.endSequence (Machine.setValve (.names i true) u)
        else Machine.claimWater .pumpOn (Machine.setWacState .pump (Machine.setValve (.names i true) u))) := by
      split
      · exact K.endSequence (K.setValve _ h)
      · exact K.claimWater _ (K.setWacState _ (K.setValve _ h))
    cases o with
    | answer data => simpa only [Machine.openValveEnded, hd] using answered
    | _ => simpa only [Machine.openValveEnded, hd] using failed _

theorem pumpOnEnded (K : Basic R) (o : TxOutcome) (h : R s u) : R s (pumpOnEnded o u) := by
  cases hd : u.wac.dose with
  | none =>
    have : Machine.pumpOnEnded o u = u := by cases o <;> simp [Machine.pumpOnEnded, hd]
    rwa [this]
  | some d =>
    have failed := K.endSequence (K.setDose hd (doseKept_getD d (.aborted .pumpLost)) h)
    cases o with
    | answer data =>
      simp only [Machine.pumpOnEnded, hd]
      split
      · exact K.endSequence (K.setPump _ h)
      · exact K.setWacState _ (K.setDose (d := d) (by simpa [Machine.setPump] using hd) (doseKept_of_eq rfl rfl) (K.setPump _ h))
    | _ => simpa only [Machine.pumpOnEnded, hd] using failed

theorem takeDelivered_kept (data : List Octet) (d : Dose) : doseKept d (takeDelivered data d) := by
  unfold takeDelivered
  dsimp only
  split <;> exact doseKept_of_eq rfl rfl

@[simp] theorem judgeReservoir_dose (n : Nat) (u : State) : (Machine.judgeReservoir n u).wac.dose = u.wac.dose := by
  simp only [Machine.judgeReservoir, modWac_wac]
  split <;> rfl

theorem dosePollEnded (K : Basic R) (o : TxOutcome) (h : R s u) : R s (dosePollEnded o u) := by
  cases hd : u.wac.dose with
  | none =>
    have : Machine.dosePollEnded o u = u := by simp [Machine.dosePollEnded, hd]
    rwa [this]
  | some d =>
    cases o with
    | answer data =>
      have held {x : Dose} (hx : doseKept d x) :
          R s (Machine.setDose x (Machine.judgeReservoir (reservoirOf data) u)) :=
        K.setDose (by simpa using hd) hx (K.judgeReservoir _ h)
      have kept := takeDelivered_kept data d
      simp only [Machine.dosePollEnded, hd]
      split
      · exact K.endSequence (held kept)
      · split
        · exact K.decideWater _ (held kept)
        · exact held ⟨kept.1, kept.2⟩
    | _ =>
      simp only [Machine.dosePollEnded, hd]
      split
      · exact K.endSequence (K.setDose hd (doseKept_of_eq rfl rfl) h)
      · exact K.setDose hd (doseKept_of_eq rfl rfl) h

theorem pumpOffEnded (K : Basic R) (o : TxOutcome) (h : R s u) : R s (pumpOffEnded o u) := by
  unfold Machine.pumpOffEnded
  repeat' split
  · exact h
  · exact K.closeStep _ (K.setPump _ h)
  · rename_i d hd _ _ _
    exact K.closeStep _ (K.setDose hd (doseKept_of_eq rfl rfl) h)
  · exact K.endDose _ _ (K.setPump _ h)

theorem closeValveEnded (K : Basic R) (o : TxOutcome) (h : R s u) : R s (closeValveEnded o u) := by
  unfold Machine.closeValveEnded
  repeat' split
  · exact h
  · exact K.endDose _ _ (K.setValve _ h)
  · exact K.endDose _ _ (K.setValve _ h)

theorem reservoirPollEnded (K : Basic R) (o : TxOutcome) (h : R s u) : R s (reservoirPollEnded o u) := by
  unfold Machine.reservoirPollEnded
  refine K.modWac (fun w => by split <;> rfl) ?_
  split
  · exact K.judgeReservoir _ h
  · exact h

theorem faultPumpOffEnded (K : Basic R) (o : TxOutcome) (h : R s u) : R s (faultPumpOffEnded o u) := by
  unfold Machine.faultPumpOffEnded
  repeat' split
  · exact K.setPump _ h
  · exact h
  · exact K.setPump _ h

theorem beginCheck (K : Basic R) (i : StringNo) (h : R s u) : R s (beginCheck i u) := by
  refine K.claimWater _ (K.quietly (K.trans h (K.mapQueue (fun e => if e.same .water i then { e with checked := true } else e)
    u fun e => ?_)) (by simp [quiet]))
  split <;> exact ⟨rfl, rfl⟩

/-! ### Bars, clears and dispatch (Machine/Bars.lean) -/

theorem barEqualised (K : Basic R) (i : StringNo) (b : Option BarCause) (c : BarCause) (h : R s u) :
    R s (barEqualised i b c u) := by
  have h1 := K.trans h (K.barString i (.equalise (some (joinBar b c))) u rfl)
  unfold Machine.barEqualised
  dsimp only
  split
  · exact K.decideEqualise _ h1
  · exact h1

theorem barWatered (K : Basic R) (i : StringNo) (b : Option BarCause) (c : BarCause) (h : R s u) :
    R s (barWatered i b c u) := by
  have h1 := K.trans h (K.barString i (.water (some (joinBar b c))) u rfl)
  unfold Machine.barWatered
  dsimp only
  split
  · exact K.decideWater _ h1
  · exact h1

theorem bar (K : Basic R) (i : StringNo) (c : BarCause) (h : R s u) : R s (bar i c u) := by
  unfold Machine.bar
  split
  · exact h
  · split
    · exact K.trans h (K.barString i _ u rfl)
    · exact K.trans h (K.barString i _ u rfl)
    · exact K.barEqualised _ _ _ h
    · exact K.barWatered _ _ _ h
    · rename_i old hst
      exact K.setStringState i _ (fun _ => by simp [closedToQueue, hst, StringState.barCause]) (.inl rfl) h

theorem clearDetachEnded (K : Basic R) (o : TxOutcome) (h : R s u) : R s (clearDetachEnded o u) := by
  have h1 : R s (Machine.modEqc (fun e => { e with clear := false }) u) := K.modEqc (fun _ => rfl) h
  unfold Machine.clearDetachEnded
  dsimp only
  split
  · exact K.setEqcState _ (K.setAttachment _ h1)
  · split
    · exact K.bar _ _ (K.raise _ h1)
    · exact K.raise _ h1

theorem waterClearFails (K : Basic R) (h : R s u) : R s (waterClearFails u) :=
  K.raise _ (K.modWac (fun _ => rfl) h)

theorem waterClearDone (K : Basic R) (h : R s u) : R s (waterClearDone u) :=
  K.enterWacIdle (K.modWac (fun _ => rfl) h)

theorem clearPumpOffEnded (K : Basic R) (o : TxOutcome) (h : R s u) : R s (clearPumpOffEnded o u) := by
  unfold Machine.clearPumpOffEnded
  dsimp only
  repeat' split
  · exact K.claimWater _ (K.setPump _ h)
  · exact K.waterClearDone (K.setPump _ h)
  · exact K.waterClearFails h
  · exact K.waterClearFails (K.setPump _ h)

theorem clearCloseEnded (K : Basic R) (i : StringNo) (o : TxOutcome) (h : R s u) : R s (clearCloseEnded i o u) := by
  unfold Machine.clearCloseEnded
  dsimp only
  repeat' split
  · exact K.waterClearDone (K.releaseString _ _ _ (.inl rfl) (K.setValve _ h))
  · exact K.waterClearDone (K.setValve _ h)
  · exact K.waterClearFails (K.releaseString _ _ _ (.inl rfl) (K.setValve _ h))
  · exact K.waterClearFails (K.bar _ _ (K.setValve _ h))

theorem judgeWac (K : Basic R) (h : R s u) : R s (judgeWac u) := by
  unfold Machine.judgeWac
  split
  · exact K.beginCheck _ h
  · exact h

theorem judgeWindowNeeded (K : Basic R) (h : R s u) : R s (judgeWindowNeeded u) := by
  unfold Machine.judgeWindowNeeded
  dsimp only
  split
  · exact K.raise _ (K.modPlant _ h)
  · exact K.modPlant _ h

/-! ### The Sweep Scanner (Machine/Sweep.lean) -/

theorem reachItem (K : Basic R) (l : List SweepItem) (h : R s u) : R s (reachItem l u) := by
  unfold Machine.reachItem
  split
  · exact K.modSweep _ h
  · exact K.modLoop _ (K.modSweep _ h)

theorem startSweep (K : Basic R) (h : R s u) : R s (startSweep u) := K.reachItem _ (K.modSweep _ h)

theorem continueSweep (K : Basic R) (l : List SweepItem) (h : R s u) : R s (continueSweep l u) := by
  unfold Machine.continueSweep
  dsimp only
  split
  · exact K.startSweep (K.modSweep _ (K.reachItem _ h))
  · exact K.reachItem _ h

theorem sweepMatched (K : Basic R) (h : R s u) : R s (sweepMatched u) := by
  unfold Machine.sweepMatched lateMatch
  dsimp only
  repeat' split
  · exact K.modSweep _ h
  · exact K.raise _ (K.modSweep _ h)
  · exact K.startSweep h
  · exact K.startSweep (K.modSweep _ h)

end Basic

end Sys2Proof.Laws
end

section
/-! SUPPORT. The same for what a sweep writes, the Demand Unit, the Loop Controller and the events that judge no dispatch. -/

namespace Sys2Proof.Laws

open Sys2Proof.Machine

variable {R : State → State → Prop} {s u : State}

namespace Basic

/-! ### What a sweep writes (R27, R28, R31) -/

theorem toNat_clampTo_le (hi : Nat) (x : Int) : (clampTo 0 hi x).toNat ≤ hi := by
  have := clampTo_le 0 hi x (by omega)
  omega

theorem within_clampTo (lo hi x : Int) (h : lo ≤ hi) : within lo hi (clampTo lo hi x) = true := by
  simp [within, le_clampTo lo hi x h, clampTo_le lo hi x h]

theorem addThroughput_kept (n : Nat) (r : StringRecord) : recordKept s r (addThroughput n r) := by
  unfold addThroughput
  split
  · exact ⟨id, id, .inl le_rfl⟩
  · refine ⟨?_, id, .inl le_rfl⟩
    have hlt : (r.remainder + n) % 3600 < 3600 := Nat.mod_lt _ (by decide)
    simp +contextual [recordInRange, satAdd, hlt]

theorem summaryWrite_kept (offset : Int) (interval : Nat) (data : List Octet) (r : StringRecord) :
    recordKept s r (summaryWrite offset interval data r) := by
  obtain ⟨hrange, hclosed, hsettle⟩ := addThroughput_kept (s := s)
    (throughputAddition (clampTo (-32768) 32767 (halfAt data 2).toInt) (throughputInterval r.age interval))
    { r with
      voltage := calibratedVoltage offset (halfAt data 0).toNat
      current := clampTo (-32768) 32767 (halfAt data 2).toInt
      temperature := clampTo (-400) 1250 (halfAt data 4).toInt
      levelLow := flagAt data 6
      age := 0 }
  refine ⟨fun hr => hrange ?_, hclosed, hsettle⟩
  have hv := toNat_clampTo_le 65535 (((halfAt data 0).toNat : Int) + offset)
  have hi := within_clampTo (-32768) 32767 (halfAt data 2).toInt (by decide)
  have ht := within_clampTo (-400) 1250 (halfAt data 4).toInt (by decide)
  simp only [recordInRange, Bool.and_eq_true] at hr ⊢
  simp_all [calibratedVoltage]

theorem cellsWrite_kept (offset : Int) (data : List Octet) (r : StringRecord) :
    recordKept s r { r with cells := some (cellsOf offset data) } := by
  refine ⟨fun hr => ?_, id, .inl le_rfl⟩
  have hcells : (cellsOf offset data).toList.all (· ≤ 4095) = true := by
    simp only [cellsOf, Vector.toList_ofFn, List.all_eq_true, List.mem_ofFn]
    rintro x ⟨k, rfl⟩
    exact decide_eq_true (toNat_clampTo_le 4095 _)
  simp only [recordInRange, Bool.and_eq_true] at hr ⊢
  simp_all

theorem summaryAnswered (K : Basic R) (i : StringNo) (data : List Octet) (h : R s u) :
    R s (summaryAnswered i data u) := by
  unfold Machine.summaryAnswered
  refine K.continueSweep _ ?_
  split
  · exact K.modString _ _ (summaryWrite_kept _ _ _ _) h
  · exact h

theorem spreadCheck (K : Basic R) (i : StringNo) (n : Nat) (h : R s u) : R s (spreadCheck i n u) := by
  unfold Machine.spreadCheck
  split
  · exact K.raise _ (K.modSweep _ (K.post _ h))
  · exact h

theorem cellsAnswered (K : Basic R) (i : StringNo) (data : List Octet) (h : R s u) :
    R s (cellsAnswered i data u) := by
  unfold Machine.cellsAnswered
  refine K.continueSweep _ ?_
  split
  · exact K.spreadCheck _ _ (K.modString _ _ (cellsWrite_kept _ _ _) h)
  · exact h

theorem sweepItemEnded (K : Basic R) (it : SweepItem) (o : TxOutcome) (h : R s u) :
    R s (sweepItemEnded it o u) := by
  unfold Machine.sweepItemEnded
  split
  · exact K.summaryAnswered _ _ h
  · exact K.continueSweep _ h
  · exact K.cellsAnswered _ _ h
  · exact K.continueSweep _ h

/-! ### The Demand Unit (Machine/Demand.lean) -/

theorem judgeDemand (K : Basic R) (h : R s u) : R s (judgeDemand u) := by
  unfold Machine.judgeDemand
  repeat' split
  · exact h
  · exact h
  · exact h
  · exact K.modLoop _ (K.modDemand (fun _ => rfl) h)
  · exact K.modLoop _ h
  · exact h

theorem setWait (K : Basic R) (i : StringNo) (w : Option Nat) (h : R s u) : R s (setWait i w u) :=
  K.modDemand (fun _ => rfl) h

theorem listRestarted (K : Basic R) (i : StringNo) (h : R s u) : R s (listRestarted i u) := by
  unfold Machine.listRestarted
  dsimp only
  split
  · exact K.modDemand (fun _ => rfl) (K.setWait _ _ h)
  · exact K.setWait _ _ h

theorem listInstalled (K : Basic R) (h : R s u) : R s (listInstalled u) := K.modDemand (fun _ => rfl) h

theorem configEnded (K : Basic R) (i : StringNo) (o : TxOutcome) (h : R s u) : R s (configEnded i o u) :=
  K.setWait _ _ (K.modDemand (fun _ => rfl) h)

theorem decideOnString (K : Basic R) (i : StringNo) (o : EqOutcome) (h : R s u) : R s (decideOnString i o u) := by
  unfold Machine.decideOnString
  repeat' split
  · exact K.decideEqualise _ h
  · exact h
  · exact h

theorem decideDoseOn (K : Basic R) (i : StringNo) (o : WaterOutcome) (h : R s u) : R s (decideDoseOn i o u) := by
  unfold Machine.decideDoseOn
  repeat' split
  · exact K.decideWater _ h
  · exact h
  · exact h

theorem demandAction (K : Basic R) (w : DemandWord) (h : R s u) : R s (demandAction w u) := by
  unfold Machine.demandAction
  split
  · cases w.kind with
    | levelLow => exact K.post _ h
    | overTemp => exact K.decideOnString _ _ h
    | valveFault => exact K.bar _ _ h
    | nodeRestart => exact K.listRestarted _ (K.decideDoseOn _ _ (K.decideOnString _ _ h))
    | boostFault | reservoirLow | flowLeak => exact h
  · split
    · cases w.kind with
      | nodeRestart | boostFault => exact K.boostDistrusted _ h
      | levelLow | overTemp | valveFault | reservoirLow | flowLeak => exact h
    · cases w.kind with
      | nodeRestart => exact K.decideWater _ h
      | reservoirLow => exact K.setReservoirLow h
      | flowLeak => exact K.flowLeak h
      | levelLow | overTemp | valveFault | boostFault => exact h

theorem takeWord (K : Basic R) (w : DemandWord) (h : R s u) : R s (takeWord w u) := by
  have h1 := K.demandAction w h
  have appended {v : State} (hl : v.demand.fifo.length < Config.fifoCapacity) (e : FifoEntry) (hv : R s v) :
      R s (Machine.modDemand (fun d => { d with fifo := d.fifo ++ [e] }) v) :=
    K.trans hv (K.changeFifo (v.demand.fifo ++ [e]) v (.inr (by simpa using hl)))
  unfold Machine.takeWord appendDemand appendEntry dropDemand
  dsimp only
  repeat' split
  · rename_i hl _
    exact K.raise _ (appended hl _ h1)
  · rename_i hl _
    exact appended hl _ h1
  · exact K.modDemand (fun _ => rfl) h1
  · exact K.raise _ (K.modDemand (fun _ => rfl) h1)

theorem takePoll (K : Basic R) (x : PollRead) (h : R s u) : R s (takePoll x u) := by
  unfold Machine.takePoll pollReturned pollFailed
  split
  · exact K.modDemand (fun _ => rfl) h
  · exact K.takeWord _ (K.modDemand (fun _ => rfl) h)
  · exact K.modDemand (fun _ => rfl) h

/-! ### The Loop Controller (Machine/Loop.lean) -/

theorem setInFlight (K : Basic R) (x : Option InFlight) (h : R s u) : R s (setInFlight x u) := K.modLoop _ h

theorem startTransaction (K : Basic R) (w : Claimant) (m : MemberNo) (c : LoopCommand) (h : R s u) :
    R s (startTransaction w m c u) := K.setInFlight _ h

theorem setRelease (K : Basic R) (x : Release) (h : R s u) : R s (setRelease x u) := K.modLoop _ h

theorem setSlot (K : Basic R) (p : SlotPort) (x : Slot) (h : R s u) : R s (setSlot p x u) := by
  unfold Machine.setSlot
  split <;> exact K.modLoop _ h

theorem slotDone (K : Basic R) (p : SlotPort) (x : SlotResult) (h : R s u) : R s (slotDone p x u) :=
  K.raise _ (K.setSlot _ _ h)

theorem grantSlot (K : Basic R) (p : SlotPort) (m : MemberNo) (c : LoopCommand) (h : R s u) :
    R s (grantSlot p m c u) := by
  unfold Machine.grantSlot
  split
  · exact K.slotDone _ _ h
  · exact K.startTransaction _ _ _ (K.setSlot _ _ h)

theorem handAbsence (K : Basic R) (m : MemberNo) (h : R s u) : R s (handAbsence m u) := by
  unfold Machine.handAbsence
  repeat' split
  · exact K.bar _ _ h
  · exact K.decideEqualise _ h
  · exact K.decideWater _ h

theorem serveDetach (K : Basic R) (h : R s u) : R s (serveDetach u) := by
  unfold Machine.serveDetach
  split
  all_goals first | exact K.withdrawEqualise h | exact h

theorem servePumpOff (K : Basic R) (h : R s u) : R s (servePumpOff u) := by
  unfold Machine.servePumpOff
  split
  · exact K.withdrawWater h
  · exact h

theorem sendStep (K : Basic R) (x : SafeStep) (h : R s u) : R s (sendStep x u) := by
  cases x with
  | close i => exact K.startTransaction _ _ _ h
  | pumpOff => exact K.startTransaction _ _ _ (K.servePumpOff h)
  | boost =>
    change R s (sendBoost u)
    unfold sendBoost
    split
    · exact K.startTransaction _ _ _ h
    · exact K.startTransaction _ _ _ (K.serveDetach h)

theorem nextSafe (K : Basic R) (h : R s u) : R s (nextSafe u) := by
  unfold Machine.nextSafe finishSafe
  repeat' split
  · exact K.sendStep _ (K.setRelease _ h)
  · exact K.setRelease _ h
  · exact K.removePause _ (K.setRelease _ h)
  · exact h

theorem startSafe (K : Basic R) (h : R s u) : R s (startSafe u) := by
  unfold Machine.startSafe
  split
  · exact K.nextSafe (K.setRelease _ h)
  · exact h

theorem safeDetachEnded (K : Basic R) (o : TxOutcome) (h : R s u) : R s (safeDetachEnded o u) := by
  unfold Machine.safeDetachEnded
  repeat' split
  · exact K.clearDetachEnded _ h
  · exact K.setAttachment _ h
  · exact h
  · exact h
  · exact K.enterEqcFault h
  · exact K.detachEnded _ h

theorem safePumpOffEnded (K : Basic R) (o : TxOutcome) (h : R s u) : R s (safePumpOffEnded o u) := by
  unfold Machine.safePumpOffEnded
  repeat' split
  · exact K.clearPumpOffEnded _ h
  · exact h
  · exact h
  · exact K.enterWacFault h
  · exact h

theorem safeStandbyEnded (K : Basic R) (o : TxOutcome) (h : R s u) : R s (safeStandbyEnded o u) := by
  unfold Machine.safeStandbyEnded
  repeat' split
  · exact h
  · exact K.removePause _ h
  · exact K.decideEqualise _ h

theorem safeAttachEnded (K : Basic R) (i : StringNo) (o : TxOutcome) (h : R s u) : R s (safeAttachEnded i o u) := by
  unfold Machine.safeAttachEnded
  split
  · exact K.setAttachment _ h
  · exact K.decideEqualise _ h

theorem safeJobEnded (K : Basic R) (j : SafeJob) (o : TxOutcome) (h : R s u) : R s (safeJobEnded j o u) := by
  unfold Machine.safeJobEnded
  split
  · exact h
  · exact K.bar _ _ h
  · exact K.safePumpOffEnded _ h
  · exact K.safeAttachEnded _ _ h
  · exact K.safeStandbyEnded _ h
  · exact K.safeDetachEnded _ h

theorem safeGoesOn (K : Basic R) (j : SafeJob) (o : TxOutcome) (h : R s u) : R s (safeGoesOn j o u) := by
  unfold Machine.safeGoesOn
  split
  · exact K.startTransaction _ _ _ h
  · exact K.nextSafe h

theorem afterEnd (K : Basic R) (t : Transaction) (o : TxOutcome) (h : R s u) : R s (afterEnd t o u) := by
  unfold Machine.afterEnd
  repeat' split
  · exact K.safeGoesOn _ _ h
  · exact K.startSafe h
  · exact h

/-- The end of a transaction of the Equalise Channel, of the scanner, of a slot, of the Demand Unit, of the sequence, or
of the Water Channel but for a check: no dose begins (R105). -/
theorem handOutcome (K : Basic R) (w : Claimant) (o : TxOutcome) (hw : w ≠ .water .check) (h : R s u) :
    R s (handOutcome w o u) := by
  cases w with
  | reconfiguration i => exact K.configEnded _ _ h
  | sweep it => exact K.sweepItemEnded _ _ h
  | slot p => exact K.slotDone _ _ h
  | safeState j => exact K.safeJobEnded _ _ h
  | water j =>
    cases j with
    | check => exact absurd rfl hw
    | reservoirPoll => exact K.reservoirPollEnded _ h
    | openValve i => exact K.openValveEnded _ _ h
    | pumpOn => exact K.pumpOnEnded _ h
    | dosePoll => exact K.dosePollEnded _ h
    | pumpOff => exact K.pumpOffEnded _ h
    | closeValve i => exact K.closeValveEnded _ h
    | faultPumpOff => exact K.faultPumpOffEnded _ h
    | clearPumpOff => exact K.clearPumpOffEnded _ h
    | clearClose i => exact K.clearCloseEnded _ _ h
  | equalise j =>
    cases j with
    | attach i => exact K.attachEnded _ _ h
    | connectStandby => exact K.connectStandbyEnded _ h
    | setPoint sp =>
      cases o with
      | answer data => exact K.setPointAnswered _ h
      | _ => exact K.setPointFailed h
    | pauseStandby => exact K.pauseStandbyEnded _ h
    | refresh => exact K.refreshEnded _ h
    | detach => exact K.detachEnded _ h
    | faultDetach => exact K.faultDetachEnded _ h
    | clearDetach => exact K.clearDetachEnded _ h

theorem countOutcome (K : Basic R) (m : MemberNo) (o : TxOutcome) (h : R s u) : R s (countOutcome m o u) :=
  K.modLoop _ h

theorem grantRelease (K : Basic R) (h : R s u) : R s (grantRelease u) := by
  unfold Machine.grantRelease grantService
  split
  · exact K.grantSlot _ _ _ (K.modLoop _ h)
  · exact K.modLoop _ h

theorem endRelease (K : Basic R) (h : R s u) : R s (endRelease u) := by
  unfold Machine.endRelease
  dsimp only
  split
  · exact K.startSafe (K.setRelease _ h)
  · exact K.setRelease _ h

theorem grantDemand (K : Basic R) (j : DemandJob) (h : R s u) : R s (grantDemand j u) := by
  cases j with
  | poll => exact K.setInFlight _ (K.modDemand (fun _ => rfl) (K.modLoop _ h))
  | config i => exact K.startTransaction _ _ _ (K.modLoop _ h)

theorem grantSweep (K : Basic R) (it : SweepItem) (h : R s u) : R s (grantSweep it u) := by
  have h1 : R s (Machine.modLoop (fun l => { l with claimSweep := none }) u) := K.modLoop _ h
  cases it with
  | summary i | cells i => exact K.startTransaction _ _ _ h1
  | closeValve i =>
    unfold Machine.grantSweep
    dsimp only
    split
    · exact K.continueSweep _ h1
    · exact K.startTransaction _ _ _ h1

theorem grantWater (K : Basic R) (j : WaterJob) (h : R s u) : R s (grantWater j u) := by
  have h1 := K.withdrawWater h
  cases j with
  | pumpOn => exact K.startTransaction _ _ _ (K.modDose (fun _ => doseKept_of_eq rfl rfl) h1)
  | _ => exact K.startTransaction _ _ _ h1

theorem grantEqualise (K : Basic R) (j : EqJob) (h : R s u) : R s (grantEqualise j u) := by
  have h1 := K.withdrawEqualise h
  cases j with
  | setPoint sp => exact K.startTransaction _ _ _ (K.modRound (fun _ => roundKept_of_eq rfl rfl rfl) h1)
  | _ => exact K.startTransaction _ _ _ h1

theorem grantAtBoundary (K : Basic R) (h : R s u) : R s (grantAtBoundary u) := by
  unfold Machine.grantAtBoundary grantHighest grantPassThrough
  repeat' split
  all_goals first
    | exact K.grantDemand _ h
    | exact K.grantSweep _ h
    | exact K.grantWater _ h
    | exact K.grantEqualise _ h
    | exact K.grantSlot _ _ _ h
    | exact h

/-! ### Events that judge no dispatch (Machine/Plant.lean, Tick.lean, Store.lean, Ports.lean) -/

theorem dischargeArises (K : Basic R) (h : R s u) : R s (dischargeArises u) := K.decideWater _ (K.decideEqualise _ h)

theorem staleEnds (K : Basic R) (h : R s u) : R s (staleEnds u) := by
  unfold Machine.staleEnds
  dsimp only
  split
  · exact K.removePause _ (K.modPlant _ h)
  · exact K.modPlant _ h

theorem minuteRecord_kept (r : StringRecord) : recordKept s r (minuteRecord r) := by
  unfold minuteRecord
  split
  · rename_i n hst
    exact ⟨id, by simp [closedToQueue, StringState.barCause, StringState.pendingBar],
      .inl (by simp [hst, StringState.remaining])⟩
  · exact ⟨id, id, .inl le_rfl⟩

theorem hourRecord_kept (b : Bool) (r : StringRecord) : recordKept s r (hourRecord b r) := by
  unfold hourRecord
  split
  · refine ⟨fun hr => ?_, id, .inl le_rfl⟩
    simp only [recordInRange, Bool.and_eq_true] at hr ⊢
    cases r.hoursEqualise <;> cases r.hoursWater <;> simp_all [satAdd]
  · exact ⟨id, id, .inl le_rfl⟩

theorem ageRecord_kept (b : Bool) (r : StringRecord) : recordKept s r (ageRecord b r) := by
  unfold ageRecord
  split
  · refine ⟨fun hr => ?_, id, .inl le_rfl⟩
    simp only [recordInRange, Bool.and_eq_true] at hr ⊢
    simp_all [satAdd]
  · exact ⟨id, id, .inl le_rfl⟩

theorem takeMinute (K : Basic R) (h : R s u) : R s (takeMinute u) := by
  unfold Machine.takeMinute
  split
  · refine K.modPlant _ (K.quietly (K.trans h (K.records u (u.strings.map minuteRecord) fun i => ?_))
      (by simp [quiet]))
    simpa using minuteRecord_kept _
  · exact h

theorem takeHour (K : Basic R) (h : R s u) : R s (takeHour u) := by
  unfold Machine.takeHour
  split
  · refine K.quietly (K.trans h (K.records u
      (Vector.ofFn fun i : StringNo => hourRecord u.settings.installed[i] u.strings[i]) fun i => ?_)) (by simp [quiet])
    simpa using hourRecord_kept _ _
  · exact h

theorem takeSweepMatch (K : Basic R) (h : R s u) : R s (takeSweepMatch u) := by
  unfold Machine.takeSweepMatch
  split
  · exact K.sweepMatched (K.modSweep _ h)
  · exact h

theorem takePeriodExpiry (K : Basic R) (h : R s u) : R s (takePeriodExpiry u) := by
  unfold Machine.takePeriodExpiry
  repeat' split
  · rename_i hr _
    exact K.periodExpires (openRound_eq_some hr).1 h
  · exact h
  · rename_i hr _
    exact K.periodExpires (openRound_eq_some hr).1 h
  · exact h
  · exact h

theorem takeStandbyRefresh (K : Basic R) (h : R s u) : R s (takeStandbyRefresh u) := by
  unfold Machine.takeStandbyRefresh
  repeat' split
  · exact K.claimEqualise _ (K.stopTimer h)
  · exact h
  · exact h

theorem takePauseExpired (K : Basic R) (h : R s u) : R s (takePauseExpired u) := by
  unfold Machine.takePauseExpired
  repeat' split
  · exact K.decideEqualise _ h
  · exact h
  · exact h

theorem takeDosePoll (K : Basic R) (h : R s u) : R s (takeDosePoll u) := by
  unfold Machine.takeDosePoll
  repeat' split
  · rename_i hd _ _ _ _
    exact K.claimWater _ (K.setDose hd (doseKept_of_eq rfl rfl) h)
  · exact h
  · exact h
  · exact h

theorem takeMaximumDose (K : Basic R) (h : R s u) : R s (takeMaximumDose u) := by
  unfold Machine.takeMaximumDose
  repeat' split
  · exact K.decideWater _ h
  · exact h
  · exact h

theorem takeReservoirPoll (K : Basic R) (h : R s u) : R s (takeReservoirPoll u) := by
  unfold Machine.takeReservoirPoll
  repeat' split
  · exact K.claimWater _ (K.modWac (fun _ => rfl) h)
  · exact h
  · exact h

theorem takeWaitEnd (K : Basic R) (i : StringNo) (h : R s u) : R s (takeWaitEnd i u) := by
  unfold Machine.takeWaitEnd
  split
  · exact K.judgeDemand h
  · exact h

theorem advance (K : Basic R) (h : R s u) : R s (advance u) := by
  have h1 := K.modDose (f := Dose.tick (u.wac.state = .dose) u.settings.maxDoseTime) (fun d => by
      unfold Dose.tick; dsimp only; split <;> exact doseKept_of_eq rfl rfl)
    (K.modRound (f := Round.tick u.settings.resumeLimit) (fun _ => roundKept_of_eq rfl rfl rfl) h)
  refine K.quietly (K.trans h1 (K.records _
    (Vector.ofFn fun i : StringNo => ageRecord u.settings.installed[i] u.strings[i]) fun i => ?_)) ?_
  · simpa using ageRecord_kept _ _
  · simp [quiet, Machine.advance, Machine.modDose, Machine.modRound, Eqc.tick, Wac.tick, DemandUnit.tick]

theorem takeStoreComplete (K : Basic R) (h : R s u) : R s (takeStoreComplete u) := by
  unfold Machine.takeStoreComplete
  split
  · exact K.raise _ (K.trans h (K.changeStore u _ (.inl rfl)))
  · exact h

theorem spacingEnds (K : Basic R) (h : R s u) : R s (spacingEnds u) := by
  unfold Machine.spacingEnds
  split
  · exact K.judgeDemand (K.modDemand (fun _ => rfl) h)
  · exact h

theorem delayExpires (K : Basic R) (h : R s u) : R s (delayExpires u) := by
  unfold Machine.delayExpires
  repeat' split
  all_goals first | exact h | exact K.setInFlight _ h

theorem gapTimeout (K : Basic R) (p : Port) (h : R s u) : R s (gapTimeout p u) := by
  unfold Machine.gapTimeout
  split
  · exact K.setRx _ _ h
  · exact h

theorem resyncIdle (K : Basic R) (p : Port) (h : R s u) : R s (resyncIdle p u) := by
  unfold Machine.resyncIdle
  split
  · exact K.setRx _ _ h
  · exact h

theorem badFrame (K : Basic R) (p : Port) (cs : List LineChar) (h : R s u) : R s (badFrame p cs u) := by
  unfold Machine.badFrame
  repeat' split
  all_goals first | exact K.setRx _ _ h | exact h

end Basic

end Sys2Proof.Laws
end

section
/-! SUPPORT. The same where dispatch is judged, for the requests of the master ports, and so for every command and every step. -/

namespace Sys2Proof.Laws

open Sys2Proof.Machine

variable {R : State → State → Prop} {s u : State}
/-! ### One judgement of dispatch -/

/-- What basic updates lead to, with at most one judgement of dispatch after them, and quiet updates after that (R53). -/
def thenJudged (R : State → State → Prop) (s t : State) : Prop :=
  ∃ u, R s u ∧ (quiet u t ∨ quiet (judge u) t)

theorem quiet_refl (s : State) : quiet s s := ⟨rfl, rfl, rfl, rfl, rfl, rfl, rfl, rfl, rfl⟩

theorem quiet_trans {s t u : State} (h : quiet s t) (g : quiet t u) : quiet s u := by
  unfold quiet at *
  simp_all

theorem thenJudged.quietly {t : State} (h : thenJudged R s u) (q : quiet u t) : thenJudged R s t := by
  obtain ⟨v, hv, hq | hq⟩ := h
  · exact ⟨v, hv, .inl (quiet_trans hq q)⟩
  · exact ⟨v, hv, .inr (quiet_trans hq q)⟩

theorem thenJudged.setRx (p : Port) (x : RxState) (h : thenJudged R s u) : thenJudged R s (setRx p x u) :=
  h.quietly (by simp [quiet])

theorem thenJudged.judgeDemand (h : thenJudged R s u) : thenJudged R s (judgeDemand u) := by
  refine h.quietly ?_
  have hf : (Machine.judgeDemand u).demand.fifo = u.demand.fifo := by
    unfold Machine.judgeDemand
    repeat' split
    all_goals rfl
  simp [quiet, hf]

namespace Basic

theorem plain (_ : Basic R) (h : R s u) : thenJudged R s u := ⟨u, h, .inl (quiet_refl u)⟩

theorem judged (_ : Basic R) (h : R s u) : thenJudged R s (judge u) := ⟨u, h, .inr (quiet_refl _)⟩

theorem openWindow (K : Basic R) (b m : Nat) (h : R s u) : thenJudged R s (openWindow b m u) := by
  unfold Machine.openWindow
  dsimp only
  refine K.judged ?_
  split
  · exact K.modPlant _ h
  · exact K.removePause _ (K.modPlant _ h)

theorem closeWindowNow (K : Basic R) (h : R s u) : thenJudged R s (closeWindowNow u) := by
  unfold Machine.closeWindowNow
  split
  · exact K.judged (K.addPause _ (K.modPlant _ h))
  · exact K.plain h

theorem writePlant (K : Basic R) (x : PlantReport) (h : R s u) : thenJudged R s (writePlant x u) := by
  unfold Machine.writePlant
  dsimp only
  refine K.judged (K.staleEnds ?_)
  split
  · exact K.dischargeArises (K.modPlant _ h)
  · exact K.modPlant _ h

theorem staleArises (K : Basic R) (h : R s u) : thenJudged R s (staleArises u) := by
  unfold Machine.staleArises
  dsimp only
  refine K.judged (K.raise _ ?_)
  split
  · exact K.modPlant _ h
  · exact K.addPause _ (K.modPlant _ h)

theorem setHold (K : Basic R) (h : R s u) : thenJudged R s (setHold u) := by
  unfold Machine.setHold
  split
  · exact K.plain h
  · exact K.judged (K.addPause _ (K.modPlant _ h))

theorem clearHold (K : Basic R) (h : R s u) : thenJudged R s (clearHold u) := by
  unfold Machine.clearHold
  split
  · exact K.judged (K.removePause _ (K.modPlant _ h))
  · exact K.plain h

theorem takeSettleEnd (K : Basic R) (i : StringNo) (h : R s u) : thenJudged R s (takeSettleEnd i u) := by
  unfold Machine.takeSettleEnd
  split
  · exact K.judged (K.setStringState _ _ (by simp [StringState.barCause, StringState.pendingBar]) (.inl rfl) h)
  · exact K.plain h

theorem takeWindowExpiry (K : Basic R) (h : R s u) : thenJudged R s (takeWindowExpiry u) := by
  unfold Machine.takeWindowExpiry
  split
  · exact K.closeWindowNow h
  · exact K.plain h

theorem takeStale (K : Basic R) (h : R s u) : thenJudged R s (takeStale u) := by
  unfold Machine.takeStale
  split
  · exact K.staleArises h
  · exact K.plain h

theorem takeReleaseLimit (K : Basic R) (h : R s u) : thenJudged R s (takeReleaseLimit u) := by
  unfold Machine.takeReleaseLimit
  split
  · exact K.judged (K.endRelease h)
  · exact K.plain h

theorem endPoll (K : Basic R) (x : PollRead) (h : R s u) : thenJudged R s (endPoll x u) :=
  (K.judged (K.takePoll _ (K.setInFlight _ h))).judgeDemand

theorem pollReturns (K : Basic R) (cs : List LineChar) (h : R s u) : thenJudged R s (pollReturns cs u) := by
  unfold Machine.pollReturns
  split
  · exact K.endPoll _ h
  · exact K.plain h

theorem pollTimedOut (K : Basic R) (h : R s u) : thenJudged R s (pollTimedOut u) := by
  unfold Machine.pollTimedOut
  split
  · exact K.endPoll _ h
  · exact K.plain h

theorem rawEnds (K : Basic R) (cs : List LineChar) (h : R s u) : thenJudged R s (rawEnds cs u) := by
  unfold Machine.rawEnds
  split
  · exact K.judged (K.startSafe (K.slotDone _ _ (K.setInFlight _ h)))
  · exact K.plain h

theorem grantReleaseAtBoundary (K : Basic R) (h : R s u) : thenJudged R s (grantReleaseAtBoundary u) := by
  unfold Machine.grantReleaseAtBoundary
  split
  · exact K.judged (K.grantRelease h)
  · exact K.plain h

/-! ### Answers (Machine/Requests.lean) -/

theorem answerRequestRound (K : Basic R) (k i x p rc : Octet) (d : Half) (h : R s u) :
    thenJudged R s (answerRequestRound k i x p rc d u).state := by
  unfold Machine.answerRequestRound
  dsimp only
  repeat' split
  all_goals first | exact K.plain h | exact K.plain (K.post _ h) | exact K.judged (K.post _ h)

theorem answerCancelRound (K : Basic R) (k i : Octet) (h : R s u) : thenJudged R s (answerCancelRound k i u).state := by
  unfold Machine.answerCancelRound cancelRunning
  repeat' split
  · exact K.plain h
  · exact K.judged (K.cancelEntry _ _ h)
  · exact K.judged (K.decideEqualise _ h)
  · exact K.plain h
  · exact K.judged (K.decideWater _ h)
  · exact K.plain h
  · exact K.plain h

theorem answerBar (K : Basic R) (i : Octet) (h : R s u) : thenJudged R s (answerBar i u).state := by
  unfold Machine.answerBar
  dsimp only
  repeat' split
  all_goals first | exact K.plain h | exact K.judged (K.bar _ _ h)

theorem answerUnbar (K : Basic R) (i : Octet) (h : R s u) : thenJudged R s (answerUnbar i u).state := by
  unfold Machine.answerUnbar
  repeat' split
  all_goals first
    | exact K.plain h
    | exact K.judged (K.setStringState _ _ (by simp [StringState.barCause, StringState.pendingBar]) (.inl rfl) h)

theorem answerTakeLoop (K : Basic R) (h : R s u) : thenJudged R s (answerTakeLoop u).state := by
  unfold Machine.answerTakeLoop
  dsimp only
  repeat' split
  · exact K.judged (K.grantRelease (K.addPause _ (K.setRelease _ h)))
  · exact K.judged (K.addPause _ (K.setRelease _ h))
  · exact K.judged (K.addPause _ (K.setRelease _ h))
  · exact K.plain h
  · exact K.plain h
  · exact K.plain h

theorem answerGiveLoop (K : Basic R) (h : R s u) : thenJudged R s (answerGiveLoop u).state := by
  unfold Machine.answerGiveLoop
  split
  · exact K.judged (K.removePause _ (K.setRelease _ h))
  · exact K.judged (K.endRelease h)
  · exact K.plain (K.setRelease _ h)
  · exact K.plain h
  · exact K.plain h

theorem answerLoopTransaction (K : Basic R) (p : Port) (m c : Octet) (d : List Octet) (h : R s u) :
    R s (answerLoopTransaction p m c d u).state := by
  have placed (sp : SlotPort) (m : MemberNo) (c : LoopCommand) : R s (placePass sp m c u) := by
    unfold placePass grantService
    dsimp only
    repeat' split
    · exact K.grantSlot _ _ _ (K.setSlot _ _ h)
    · exact K.setSlot _ _ h
    · exact K.setSlot _ _ h
  unfold Machine.answerLoopTransaction judgePass
  repeat' split
  all_goals first | exact h | exact placed _ _ _

theorem answerLoopResult (K : Basic R) (p : Port) (h : R s u) : R s (answerLoopResult p u).state := by
  unfold Machine.answerLoopResult
  repeat' split
  all_goals first | exact h | exact K.setSlot _ _ h

theorem answerLoopRaw (K : Basic R) (o : List Octet) (h : R s u) : R s (answerLoopRaw o u).state := by
  unfold Machine.answerLoopRaw
  repeat' split
  · exact h
  · exact h
  · exact K.setInFlight _ (K.setSlot _ _ h)

theorem answerClearChannel (K : Basic R) (c : Octet) (h : R s u) : R s (answerClearChannel c u).state := by
  unfold Machine.answerClearChannel answerClearEqualise answerClearWater
  repeat' split
  · exact h
  · exact h
  · exact K.claimEqualise _ (K.modEqc (fun _ => rfl) h)
  · exact h
  · exact h
  · exact K.claimWater _ (K.modWac (fun _ => rfl) h)

theorem lowerLimits (K : Basic R) (n : Nat) (h : R s u) : R s (lowerLimits n u) := by
  refine K.modDose (fun _ => Basic.doseKept_of_eq rfl rfl) (K.trans h (K.mapQueue _ u fun e => ?_))
  rcases e with ⟨w, i, x, o, c⟩
  cases w <;> exact ⟨rfl, rfl⟩

theorem answerWriteSetting (K : Basic R) (a b : Octet) (v : List Octet) (h : R s u) :
    R s (answerWriteSetting a b v u).state := by
  change R s (writeSetting a b v u).1
  unfold writeSetting
  split
  · exact h
  · rename_i x _
    split
    · exact h
    · rename_i t ht
      split
      · exact h
      · have h1 : R s { u with settings := t, store := { u.store with modified := true } } :=
          K.trans h (K.written u x v t ht)
        change R s (takeWrite x t u)
        unfold takeWrite consequences
        repeat' split
        · exact K.lowerLimits _ h1
        · exact h1
        · exact K.judgeDemand (K.listInstalled h1)
        · exact K.judgeDemand (K.setWait _ _ h1)
        · exact h1
        · exact h1

theorem answerReleaseSegment (K : Basic R) (g : Octet) (h : R s u) : R s (answerReleaseSegment g u).state := by
  unfold Machine.answerReleaseSegment
  repeat' split
  · exact h
  · exact K.trans h (K.logFlags u _ _)
  · exact h

theorem owner (K : Basic R) (p : Port) (r : Request) (h : R s u) : thenJudged R s (owner p r u).state := by
  cases r with
  | plantStatus x v l d =>
    change thenJudged R s (answerPlantStatus x v l d u).state
    unfold answerPlantStatus
    split
    · exact K.plain h
    · exact K.writePlant _ h
  | holdMaintenance => exact K.setHold h
  | releaseHold => exact K.clearHold h
  | openWindow b m =>
    change thenJudged R s (answerOpenWindow b m u).state
    unfold answerOpenWindow
    split
    · exact K.plain h
    · exact K.openWindow _ _ h
  | closeWindow => exact K.closeWindowNow h
  | readString i =>
    change thenJudged R s (answerReadString i u).state
    unfold answerReadString
    split <;> exact K.plain h
  | readRounds x =>
    change thenJudged R s (answerReadRounds x u).state
    unfold answerReadRounds
    split <;> exact K.plain h
  | ackNotices m => exact K.plain (K.quietly h (by simp [Machine.owner, answerAckNotices, doneWith, quiet]))
  | setNoticeEnables m => exact K.plain (K.quietly h (by simp [Machine.owner, answerSetEnables, doneWith, quiet]))
  | loopTransaction m c d => exact K.plain (K.answerLoopTransaction p m c d h)
  | loopResult => exact K.plain (K.answerLoopResult p h)
  | requestRound k i x p rc d => exact K.answerRequestRound k i x p rc d h
  | cancelRound k i => exact K.answerCancelRound k i h
  | barString i => exact K.answerBar i h
  | unbarString i => exact K.answerUnbar i h
  | clearChannel c => exact K.plain (K.answerClearChannel c h)
  | takeLoop => exact K.answerTakeLoop h
  | giveLoop => exact K.answerGiveLoop h
  | loopRaw o => exact K.plain (K.answerLoopRaw o h)
  | readDemands =>
    exact K.plain (K.trans h (K.changeFifo (u.demand.fifo.drop Config.demandsPerRead) u (.inl (by simp))))
  | clearOverflow =>
    change thenJudged R s (answerClearOverflow u).state
    unfold answerClearOverflow
    split
    · exact K.plain (K.modDemand (f := fun d => { d with overflow := false, dropped := 0 }) (fun _ => rfl) h)
    · exact K.plain h
  | readLogRecord g i =>
    change thenJudged R s (answerReadLog g i u).state
    unfold answerReadLog
    repeat' split
    all_goals exact K.plain h
  | releaseSegment g => exact K.plain (K.answerReleaseSegment g h)
  | writeSetting i x v => exact K.plain (K.answerWriteSetting i x v h)
  | readSetting i x =>
    change thenJudged R s (answerReadSetting i x u).state
    unfold answerReadSetting
    split <;> exact K.plain h
  | storeSettings =>
    change thenJudged R s (answerStoreSettings u).state
    unfold answerStoreSettings
    split
    · exact K.plain h
    · exact K.plain (K.trans h (K.changeStore u _ (.inr rfl)))
  | setClock t => exact K.plain (K.quietly h (by simp [Machine.owner, answerSetClock, doneWith, quiet]))
  | readForecast | readNotices | restart => exact K.plain h

/-! ### Frames at the master ports (Machine/Ports.lean) -/

theorem answer (K : Basic R) (p : Port) (r : Request) (h : R s u) : thenJudged R s (answer p r u).state := by
  unfold Machine.answer
  repeat' split
  · exact K.plain h
  · exact K.plain h
  · exact K.owner _ _ h

theorem answerBody (K : Basic R) (p : Port) (c : Octet) (l : List Octet) (h : R s u) :
    thenJudged R s (answerBody p c l u).state := by
  unfold Machine.answerBody
  repeat' split
  · exact K.plain h
  · exact K.answer _ _ h
  · exact K.plain h

theorem judgeFrame (K : Basic R) (p : Port) (n : Octet) (l : List Octet) (b : Bool) (h : R s u) :
    thenJudged R s (judgeFrame p n l b u) := by
  unfold Machine.judgeFrame
  repeat' split
  · exact K.plain (K.setRx _ _ h)
  · exact (K.answerBody _ _ _ h).setRx _ _
  · exact K.plain (K.setRx _ _ h)
  · exact K.plain (K.setRx _ _ h)

/-- A port that takes no character: it owes a reply or is in RESYNC (R164). -/
def deaf (p : Port) (t : State) : Prop := ∀ c, receiveChar p c t = t

theorem deaf_setRx (p : Port) (x : RxState) (t : State) (hx : x = .resync ∨ ∃ r, x = .replyOwed r) :
    deaf p (Machine.setRx p x t) := by
  intro c
  unfold Machine.receiveChar
  rcases hx with rfl | ⟨r, rfl⟩ <;> simp

theorem judgeFrame_deaf (p : Port) (n : Octet) (l : List Octet) (b : Bool) (t : State) :
    deaf p (Machine.judgeFrame p n l b t) := by
  unfold Machine.judgeFrame
  repeat' split
  · exact deaf_setRx p _ _ (.inl rfl)
  · exact deaf_setRx p _ _ (.inr ⟨_, rfl⟩)
  · exact deaf_setRx p _ _ (.inl rfl)
  · exact deaf_setRx p _ _ (.inl rfl)

/-- A character is stored, or completes a frame after which the port takes none. -/
theorem receiveChar_cases (K : Basic R) (p : Port) (c : LineChar) (h : R s u) :
    R s (receiveChar p c u) ∨ (thenJudged R s (receiveChar p c u) ∧ deaf p (receiveChar p c u)) := by
  unfold Machine.receiveChar frameOctet
  dsimp only
  repeat' split
  all_goals first
    | exact .inl h
    | exact .inl (K.setRx _ _ h)
    | exact .inr ⟨K.judgeFrame _ _ _ _ h, judgeFrame_deaf _ _ _ _ _⟩

theorem receiveChar (K : Basic R) (p : Port) (c : LineChar) (h : R s u) : thenJudged R s (receiveChar p c u) := by
  rcases K.receiveChar_cases p c h with h1 | ⟨h1, -⟩
  · exact K.plain h1
  · exact h1

/-- At most one frame completes in characters that follow one another. -/
theorem receiveChars (K : Basic R) (p : Port) (cs : List LineChar) (h : R s u) :
    thenJudged R s (receiveChars p cs u) := by
  have key := foldl_keeps (P := fun t => R s t ∨ (thenJudged R s t ∧ deaf p t))
    (fun acc c => Machine.receiveChar p c acc) (fun t c ht => by
      rcases ht with ht | ⟨ht, hdeaf⟩
      · exact K.receiveChar_cases p c ht
      · rw [hdeaf c]
        exact .inr ⟨ht, hdeaf⟩) cs u (.inl h)
  rcases key with h1 | ⟨h1, -⟩
  · exact K.plain h1
  · exact h1

theorem arrive (K : Basic R) (p : Port) (tag : Octet) (r : Request) (h : R s u) :
    thenJudged R s (arrive p tag r u) := by
  unfold Machine.arrive
  repeat' split
  · exact (K.answer _ _ h).setRx _ _
  · exact K.plain (K.setRx _ _ h)
  · exact K.receiveChars _ _ h
  · exact K.plain h
  · exact K.plain h

/-! ### Every command -/

/-- What a command may be but basic updates with one judgement of dispatch: a reset, the site tick, the traversal of the
Schedule List, or the end of a transaction. -/
def larger (s t : State) : Prop :=
  (∃ x, t = takePowerOn x s ∨ t = takePinReset x s) ∨ t = takeTick s ∨ t = takeScheduleMatch s
    ∨ ∃ x o, t = endTransaction x o s

theorem failAttempt (K : Basic R) (t : Transaction) (o : TxOutcome) :
    thenJudged R s (failAttempt t o s) ∨ larger s (failAttempt t o s) := by
  unfold Machine.failAttempt
  split
  · exact .inl (K.plain (K.setInFlight _ (K.refl s)))
  · exact .inr (.inr (.inr (.inr ⟨_, _, rfl⟩)))

theorem takeReply (K : Basic R) (t : Transaction) (x : ReplyRead) :
    thenJudged R s (takeReply t x s) ∨ larger s (takeReply t x s) := by
  unfold Machine.takeReply
  repeat' split
  · exact .inr (.inr (.inr (.inr ⟨_, _, rfl⟩)))
  · exact .inr (.inr (.inr (.inr ⟨_, _, rfl⟩)))
  · exact .inl (K.plain (K.setInFlight _ (K.refl s)))
  · exact .inr (.inr (.inr (.inr ⟨_, _, rfl⟩)))
  · exact K.failAttempt _ _

theorem replyArrives (K : Basic R) (cs : List LineChar) :
    thenJudged R s (replyArrives cs s) ∨ larger s (replyArrives cs s) := by
  unfold Machine.replyArrives
  repeat' split
  · exact .inl (K.plain (K.refl s))
  · exact K.takeReply _ _
  · exact .inl (K.plain (K.refl s))

theorem replyTimedOut (K : Basic R) : thenJudged R s (replyTimedOut s) ∨ larger s (replyTimedOut s) := by
  unfold Machine.replyTimedOut
  split
  · exact K.failAttempt _ _
  · exact .inl (K.plain (K.refl s))

theorem replyGap (K : Basic R) : thenJudged R s (replyGap s) ∨ larger s (replyGap s) := by
  unfold Machine.replyGap
  repeat' split
  · exact .inl (K.endPoll _ (K.refl s))
  · exact K.failAttempt _ _
  · exact .inl (K.plain (K.refl s))

theorem replySent (K : Basic R) (p : Port) (x : Straps) :
    thenJudged R s (replySent p x s) ∨ larger s (replySent p x s) := by
  unfold Machine.replySent
  repeat' split
  · exact .inr (.inl ⟨x, .inr rfl⟩)
  · exact .inl (K.plain (K.setRx _ _ (K.refl s)))
  · exact .inl (K.plain (K.refl s))

/-- Every command is made of basic updates and one judgement of dispatch, or is one of the larger ones. -/
theorem exec (K : Basic R) (c : Instr) (s : State) :
    ∃ t, exec c s = .next t ∧ (thenJudged R s t ∨ larger s t) := by
  have h := K.refl s
  cases c
  case powerOn x => exact ⟨_, rfl, .inr (.inl ⟨x, .inl rfl⟩)⟩
  case pinReset x => exact ⟨_, rfl, .inr (.inl ⟨x, .inr rfl⟩)⟩
  case siteTick => exact ⟨_, rfl, .inr (.inr (.inl rfl))⟩
  case scheduleMatch => exact ⟨_, rfl, .inr (.inr (.inr (.inl rfl)))⟩
  case siteHour => exact ⟨_, rfl, .inl (K.plain (K.takeHour h))⟩
  case siteMinute => exact ⟨_, rfl, .inl (K.plain (K.takeMinute h))⟩
  case settleEnd i => exact ⟨_, rfl, .inl (K.takeSettleEnd i h)⟩
  case windowExpiry => exact ⟨_, rfl, .inl (K.takeWindowExpiry h)⟩
  case sweepMatch => exact ⟨_, rfl, .inl (K.plain (K.takeSweepMatch h))⟩
  case periodExpiry => exact ⟨_, rfl, .inl (K.plain (K.takePeriodExpiry h))⟩
  case standbyRefresh => exact ⟨_, rfl, .inl (K.plain (K.takeStandbyRefresh h))⟩
  case pauseExpired => exact ⟨_, rfl, .inl (K.plain (K.takePauseExpired h))⟩
  case dosePoll => exact ⟨_, rfl, .inl (K.plain (K.takeDosePoll h))⟩
  case maximumDoseTime => exact ⟨_, rfl, .inl (K.plain (K.takeMaximumDose h))⟩
  case reservoirPoll => exact ⟨_, rfl, .inl (K.plain (K.takeReservoirPoll h))⟩
  case stale => exact ⟨_, rfl, .inl (K.takeStale h)⟩
  case releaseLimit => exact ⟨_, rfl, .inl (K.takeReleaseLimit h)⟩
  case pollSpacingEnd => exact ⟨_, rfl, .inl (K.plain (K.spacingEnds h))⟩
  case reconfigurationWaitEnd i => exact ⟨_, rfl, .inl (K.plain (K.takeWaitEnd i h))⟩
  case storeComplete => exact ⟨_, rfl, .inl (K.plain (K.takeStoreComplete h))⟩
  case demandLineAsserted b => exact ⟨_, rfl, .inl (K.plain (K.judgeDemand (K.modDemand (fun _ => rfl) h)))⟩
  case loopGrant => exact ⟨_, rfl, .inl (K.plain (K.grantAtBoundary h))⟩
  case releaseGrant => exact ⟨_, rfl, .inl (K.grantReleaseAtBoundary h)⟩
  case fixedDelay => exact ⟨_, rfl, .inl (K.plain (K.delayExpires h))⟩
  case loopReply cs => exact ⟨_, rfl, K.replyArrives cs⟩
  case replyTimeout => exact ⟨_, rfl, K.replyTimedOut⟩
  case loopReplyGap => exact ⟨_, rfl, K.replyGap⟩
  case demandPollReturn cs => exact ⟨_, rfl, .inl (K.pollReturns cs h)⟩
  case pollReturnTimeout => exact ⟨_, rfl, .inl (K.pollTimedOut h)⟩
  case rawCollectionEnd cs => exact ⟨_, rfl, .inl (K.rawEnds cs h)⟩
  case frameGapTimeout p => exact ⟨_, rfl, .inl (K.plain (K.gapTimeout p h))⟩
  case resyncIdle p => exact ⟨_, rfl, .inl (K.plain (K.resyncIdle p h))⟩
  case badFrame p cs => exact ⟨_, rfl, .inl (K.plain (K.badFrame p cs h))⟩
  case replySent p x => exact ⟨_, rfl, K.replySent p x⟩
  case characterReceived p c => exact ⟨_, rfl, .inl (K.receiveChar p c h)⟩
  all_goals exact ⟨_, rfl, .inl (K.arrive _ _ _ h)⟩

end Basic

namespace Judged

theorem judgeEqc (K : Judged R) (h : R s u) : R s (judgeEqc u) := by
  unfold Machine.judgeEqc
  split
  · rename_i e he
    split
    · rename_i rn hw
      exact K.trans h (K.roundBegins e rn u he hw)
    · exact h
  · exact h

theorem judge (K : Judged R) (h : R s u) : R s (judge u) := by
  refine K.judgeWindowNeeded ?_
  unfold Machine.judgeChannels
  dsimp only
  have h1 : R s { u with free := u.free + 1 } := K.quietly h (by simp [quiet])
  split_ifs
  · exact K.judgeEqc (K.judgeWac h1)
  · exact K.judgeWac (K.judgeEqc h1)
  · exact K.judgeWac (K.judgeEqc h)

/-- A relation that the claim of the Equalise Channel keeps is kept by the judgement of dispatch. -/
theorem ofThenJudged (K : Judged R) (h : thenJudged R s u) : R s u := by
  obtain ⟨v, hv, hq | hq⟩ := h
  · exact K.quietly hv hq
  · exact K.quietly (K.judge hv) hq

theorem traverse (K : Judged R) (h : R s u) : R s (traverse u) := by
  refine foldl_keeps (P := R s) _ (fun t i ht => ?_) _ u h
  unfold judgeEntry
  dsimp only
  split
  · exact K.judge (K.post _ ht)
  · exact ht

theorem takeScheduleMatch (K : Judged R) (h : R s u) : R s (takeScheduleMatch u) := by
  unfold Machine.takeScheduleMatch
  split
  · exact K.traverse (K.quietly h (by simp [quiet]))
  · exact h

theorem takeTick (K : Judged R) (h : R s u) : R s (takeTick u) := by
  have B := K.toBasic
  unfold Machine.takeTick takeDue
  have settled := foldl_keeps (P := R s) (fun acc i => Machine.takeSettleEnd i acc)
    (fun t i ht => K.ofThenJudged (B.takeSettleEnd i ht)) (List.finRange 8) _ (K.takeMinute (K.takeHour h))
  have matched := K.takeScheduleMatch (K.takeSweepMatch (K.ofThenJudged (B.takeWindowExpiry settled)))
  have staled := K.ofThenJudged (B.takeStale (K.takeReservoirPoll (K.takeMaximumDose (K.takeDosePoll
    (K.takePauseExpired (K.takeStandbyRefresh (K.takePeriodExpiry matched)))))))
  exact K.advance (K.judgeDemand (foldl_keeps (P := R s) _ (fun t i ht => K.takeWaitEnd i ht) _ _
    (K.ofThenJudged (B.takeReleaseLimit staled))))

/-- A relation that the basic updates and the beginning of a round keep is kept by every command but a reset and the end
of a transaction. -/
theorem exec (K : Judged R) (c : Instr) (s : State) :
    ∃ t, exec c s = .next t
      ∧ (R s t ∨ (∃ x, t = takePowerOn x s ∨ t = takePinReset x s) ∨ ∃ x o, t = endTransaction x o s) := by
  obtain ⟨t, ht, h | hreset | rfl | rfl | hend⟩ := K.toBasic.exec c s
  · exact ⟨t, ht, .inl (K.ofThenJudged h)⟩
  · exact ⟨t, ht, .inr (.inl hreset)⟩
  · exact ⟨_, ht, .inl (K.takeTick (K.refl s))⟩
  · exact ⟨_, ht, .inl (K.takeScheduleMatch (K.refl s))⟩
  · exact ⟨t, ht, .inr (.inr hend)⟩

end Judged

namespace Whole

/-! ### Where a transaction ends -/

theorem checkEnded (K : Whole R) (o : TxOutcome) (h : R s u) : R s (checkEnded o u) := by
  have h1 : R s (modWac (fun w => { w with check := none }) u) := K.modWac (fun _ => rfl) h
  unfold Machine.checkEnded
  dsimp only
  repeat' split
  · exact K.setReservoirLow (K.judgeReservoir _ h1)
  · rename_i he
    exact K.trans (K.judgeReservoir _ h1) (K.doseBegins _ _ _ he)
  · exact K.judgeReservoir _ h1
  · exact K.judgeReservoir _ h1
  · exact K.judgeReservoir _ h1
  · exact h1

theorem handOutcome (K : Whole R) (w : Claimant) (o : TxOutcome) (h : R s u) : R s (handOutcome w o u) := by
  by_cases hw : w = .water .check
  · subst hw
    exact K.checkEnded o h
  · exact K.toBasic.handOutcome w o hw h

theorem endTransaction (K : Whole R) (t : Transaction) (o : TxOutcome) (h : R s u) :
    R s (endTransaction t o u) := by
  have h1 := K.countOutcome t.member o h
  have h2 : R s { Machine.countOutcome t.member o u with free := (Machine.countOutcome t.member o u).free + 1 } :=
    K.quietly h1 (by simp [quiet])
  unfold Machine.endTransaction handBoth
  dsimp only
  refine K.judgeDemand (K.judge (K.afterEnd _ _ ?_))
  split_ifs
  · exact K.handOutcome _ _ (K.setInFlight _ (K.handAbsence _ h2))
  · exact K.handAbsence _ (K.handOutcome _ _ (K.setInFlight _ h2))
  · exact K.handOutcome _ _ (K.setInFlight _ h1)

/-- A relation that the basic updates, the beginning of a round or dose and the resets keep is kept by every command. -/
theorem exec (K : Whole R) (c : Instr) (s : State) : ∃ t, exec c s = .next t ∧ R s t := by
  obtain ⟨t, ht, h | ⟨x, rfl | rfl⟩ | ⟨x, o, rfl⟩⟩ := K.toJudged.exec c s
  · exact ⟨t, ht, h⟩
  · exact ⟨_, ht, K.poweredOn x s⟩
  · exact ⟨_, ht, K.pinWasReset x s⟩
  · exact ⟨_, ht, K.endTransaction x o (K.refl s)⟩

/-- A step takes the front command on the state with the queue's rest (assumption 32). -/
theorem step (K : Whole R) {s t : State} (h : step s = .next t) :
    t = s ∨ ∃ rest, R (s.withPending rest) t := by
  unfold Machine.step at h
  split at h
  · exact .inl (by cases h; rfl)
  · rename_i c rest _
    obtain ⟨t', ht, hR⟩ := K.exec c (s.withPending rest)
    rw [ht] at h
    cases h
    exact .inr ⟨rest, hR⟩

end Whole

end Sys2Proof.Laws
end

section
/-! SUPPORT. What a claim of either channel does, in one piece. -/

namespace Sys2Proof.Laws

open Sys2Proof.Machine

/-! ### Claims taken -/

theorem eligibleEqualise_iff (s : State) (e : QueueEntry) :
    eligibleEqualise s e ↔ e.kind = .equalise ∧ stringReady s e.string ∧ s.eqc.state = .idle
      ∧ isPresent s boostUnit ∧ s.plant.discharge = false ∧ s.plant.stale = false ∧ s.plant.hold = false
      ∧ s.loop.release = .free ∧ s.plant.windowOpen := by
  simp [eligibleEqualise, eligibleButWindow, equaliseOpenButWindow, loopFree, and_assoc]

theorem eligibleWater_iff (s : State) (e : QueueEntry) :
    eligibleWater s e ↔ e.kind = .water ∧ stringReady s e.string ∧ s.wac.state = .idle
      ∧ isPresent s waterUnit ∧ s.wac.reservoirLow = false ∧ s.plant.discharge = false ∧ s.plant.hold = false
      ∧ s.loop.release = .free := by
  simp [eligibleWater, waterOpen, loopFree, and_assoc]

theorem selectEqualise_eligible {s : State} {e : QueueEntry} (h : selectEqualise s = some e) :
    eligibleEqualise s e := List.find?_some h

/-- A claim of the Equalise Channel with no DISCHARGE, in one piece (R7, R56, R60, R63). -/
theorem beginRound_eq (e : QueueEntry) (rn : Fin 4) (s : State) (h : s.plant.discharge = false) :
    beginRound e rn s =
      { s with
        strings := s.strings.set e.string { recordOf s e.string with state := .equalise none }
        queue := s.queue.filter fun x => !x.same .equalise e.string
        log := { s.log with roundNumber := s.log.roundNumber + 1 }
        eqc := { s.eqc with state := .connect, round := some (freshRound e rn (s.log.roundNumber + 1) s) }
        loop := { s.loop with claimEqualise := some (.attach e.string) } } := by
  have hd : PlantUnit.discharge s.plant = false := h
  simp [beginRound, hd, drawNumber, setStringState, modString, dropEntry, setEqcState, setRound, modEqc, claimEqualise,
    modLoop, freshRound, siteCauses, recordOf] <;> rfl

/-- A claim of the Water Channel with neither DISCHARGE nor HELD, in one piece (R7, R56, R102). -/
theorem beginDose_eq (e : QueueEntry) (n : Nat) (s : State) (hd : s.plant.discharge = false)
    (hh : s.plant.hold = false) :
    beginDose e n s =
      { s with
        strings := s.strings.set e.string { recordOf s e.string with state := .water none }
        queue := s.queue.filter fun x => !x.same .water e.string
        log := { s.log with roundNumber := s.log.roundNumber + 1 }
        wac := { s.wac with
          state := .open, pollTimer := none, check := none
          dose := some (freshDose e n (s.log.roundNumber + 1) s) }
        loop := { s.loop with claimWater := some (.openValve e.string) } } := by
  simp [beginDose, hd, hh, drawNumber, setStringState, modString, dropEntry, setDose, modWac, claimWater, modLoop,
    freshDose, recordOf]

end Sys2Proof.Laws
end

section
/-! SUPPORT. The promises about the Round Queue, the Demand FIFO and the Round Log, operation by operation. -/

namespace Sys2Proof.Laws

open Sys2Proof.Machine

/-! ### The Round Queue, the Demand FIFO and the Round Log (R44, R51, R159, R171) -/

/-- No two entries for the same round (R44). -/
def distinctRounds (q : List QueueEntry) : Prop := q.Pairwise fun a b => ¬ b.same a.kind a.string

theorem queueKept_iff (s : State) : queueKept s ↔ s.queue.length ≤ 12 ∧ distinctRounds s.queue := by
  change (decide (s.queue.length ≤ 12) && _) = true ↔ _
  simp [distinctRounds]

theorem queueClearOfBars_iff (s : State) :
    queueClearOfBars s ↔ ∀ e ∈ s.queue, ¬ closedToQueue (recordOf s e.string) := by
  simp [queueClearOfBars]

theorem fifoKept_iff (s : State) : fifoKept s ↔ s.demand.fifo.length ≤ 32 := by
  exact decide_eq_true_iff

theorem logConsecutive_iff (l : RoundLog) :
    logConsecutive l ↔ ∀ (q : Fin 64) (r : LogRecord), l.places[q] = some r →
      r.sequence = l.sequence - 1 - BitVec.ofNat 16 (l.position - 1 - q).val := by
  simp only [logConsecutive, List.all_eq_true, List.mem_finRange, true_implies]
  refine forall_congr' fun q => ?_
  cases l.places[q] <;> simp

/-- The four promises about the queue, the FIFO and the log. -/
def queuesCarry (s t : State) : Prop :=
  (queueKept s → queueKept t) ∧ (queueClearOfBars s → queueClearOfBars t) ∧ (fifoKept s → fifoKept t)
    ∧ (logConsecutive s.log → logConsecutive t.log)

theorem QueueEntry.same_iff (e : QueueEntry) (k : Kind) (i : StringNo) :
    e.same k i = true ↔ e.kind = k ∧ e.string = i := by
  simp [QueueEntry.same]

theorem distinctRounds_map {f : QueueEntry → QueueEntry} {q : List QueueEntry}
    (hf : ∀ e, (f e).kind = e.kind ∧ (f e).string = e.string) (h : distinctRounds q) : distinctRounds (q.map f) := by
  refine List.pairwise_map.mpr (h.imp fun {a b} hab => ?_)
  rw [QueueEntry.same_iff] at hab ⊢
  rwa [(hf a).1, (hf a).2, (hf b).1, (hf b).2]

/-- An entry of a new round joins at the end (R44, R48). -/
theorem distinctRounds_append {q : List QueueEntry} {e : QueueEntry} (h : distinctRounds q)
    (hn : ∀ x ∈ q, x.same e.kind e.string = false) : distinctRounds (q ++ [e]) := by
  refine List.pairwise_append.mpr ⟨h, List.pairwise_singleton _ _, fun x hx y hy => ?_⟩
  obtain rfl := List.mem_singleton.mp hy
  have := hn x hx
  rw [← Bool.not_eq_true, QueueEntry.same_iff] at this
  rw [QueueEntry.same_iff]
  exact fun h => this ⟨h.1.symm, h.2.symm⟩

theorem findEntry_eq_none {k : Kind} {i : StringNo} {q : List QueueEntry} (h : findEntry k i q = none) :
    ∀ x ∈ q, x.same k i = false := by
  simpa [findEntry] using h

/-- A displaced entry makes room for one (R49). -/
theorem length_filter_not_same {q : List QueueEntry} {e : QueueEntry} (h : e ∈ q) :
    (q.filter fun x => !x.same e.kind e.string).length < q.length := by
  refine List.length_filter_lt_length_iff_exists.mpr ⟨e, h, ?_⟩
  simp [QueueEntry.same_iff]

theorem displace_queue (old e : QueueEntry) (s : State) :
    (displace old e s).queue = (s.queue.filter fun x => !x.same old.kind old.string) ++ [e] := by
  simp [displace]

theorem judgePost_queueKept (e : QueueEntry) (s : State) (h : queueKept s) : queueKept (judgePost e s).1 := by
  rw [queueKept_iff] at h ⊢
  obtain ⟨hlen, hdis⟩ := h
  unfold judgePost
  split
  · refine ⟨by simpa using hlen, distinctRounds_map (fun x => ?_) hdis⟩
    split <;> rename_i hx
    · refine ⟨?_, rfl⟩
      obtain ⟨hk, -⟩ := (QueueEntry.same_iff _ _ _).mp hx
      simp only [QueueEntry.kind] at hk ⊢
      cases hw : x.work <;> cases he : e.work <;> simp_all [mergeInto, Work.kind]
    · exact ⟨rfl, rfl⟩
  · rename_i hnone
    have hnew := findEntry_eq_none hnone
    split
    · rename_i hroom
      have : s.queue.length < 12 := hroom
      exact ⟨by simp; omega, distinctRounds_append hdis hnew⟩
    · split
      · split
        · rename_i old hold
          have hmem : old ∈ s.queue := List.mem_reverse.mp (List.mem_of_find?_eq_some hold)
          have hlt := length_filter_not_same hmem
          rw [displace_queue]
          exact ⟨by simp; omega, distinctRounds_append (hdis.filter _) fun x hx => hnew x (List.mem_of_mem_filter hx)⟩
        · exact ⟨hlen, hdis⟩
      · exact ⟨hlen, hdis⟩

/-- What a post leaves in the queue names a string that stood there, or the string of the post. -/
theorem judgePost_strings (e : QueueEntry) (s : State) :
    ∀ x ∈ (judgePost e s).1.queue, x.string = e.string ∨ ∃ y ∈ s.queue, y.string = x.string := by
  unfold judgePost
  intro x hx
  split at hx
  · obtain ⟨y, hy, rfl⟩ := List.mem_map.mp hx
    refine .inr ⟨y, hy, ?_⟩
    split <;> rfl
  · split at hx
    · rcases List.mem_append.mp hx with hx | hx
      · exact .inr ⟨x, hx, rfl⟩
      · exact .inl (by rw [List.mem_singleton.mp hx])
    · split at hx
      · split at hx
        · rw [displace_queue] at hx
          rcases List.mem_append.mp hx with hx | hx
          · exact .inr ⟨x, List.mem_of_mem_filter hx, rfl⟩
          · exact .inl (by rw [List.mem_singleton.mp hx])
        · exact .inr ⟨x, hx, rfl⟩
      · exact .inr ⟨x, hx, rfl⟩

theorem judgePost_queueClearOfBars (e : QueueEntry) (s : State) (he : ¬ closedToQueue (recordOf s e.string))
    (h : queueClearOfBars s) : queueClearOfBars (judgePost e s).1 := by
  rw [queueClearOfBars_iff] at h ⊢
  intro x hx
  have hrec : recordOf (judgePost e s).1 x.string = recordOf s x.string := by simp [recordOf]
  rw [hrec]
  rcases judgePost_strings e s x hx with hs | ⟨y, hy, hs⟩
  · rwa [hs]
  · rw [← hs]
    exact h y hy

/-- The sequence numbers stay consecutive when one more record is written (R171). -/
theorem logAfter_consecutive (r : LogRecord) (l : RoundLog) (h : logConsecutive l) :
    logConsecutive (logAfter r l) := by
  rw [logConsecutive_iff] at h ⊢
  intro q x hx
  simp only [logAfter, Fin.getElem_fin, Vector.getElem_set] at hx ⊢
  by_cases hq : l.position.val = q.val
  · have hq' : l.position = q := Fin.ext hq
    simp only [hq, if_true, Option.some.injEq] at hx
    subst hx hq'
    simp
  · simp only [hq, if_false] at hx
    have hseq := h q x hx
    have hval : (l.position + 1 - 1 - q).val = (l.position - 1 - q).val + 1 := by omega
    rw [hseq, hval, BitVec.ofNat_add]
    bv_omega

theorem logWrite_consecutive (r : LogRecord) (s : State) (h : logConsecutive s.log) :
    logConsecutive (logWrite r s).log := by
  rw [logWrite_eq]
  exact logAfter_consecutive r s.log h

theorem displace_log (old e : QueueEntry) (s : State) (h : logConsecutive s.log) :
    logConsecutive (displace old e s).log := by
  unfold displace
  exact logWrite_consecutive _ (dropEntry old.kind old.string s) h

theorem judgePost_log (e : QueueEntry) (s : State) (h : logConsecutive s.log) :
    logConsecutive (judgePost e s).1.log := by
  unfold judgePost
  repeat' split
  · exact h
  · exact h
  · exact displace_log _ _ _ h
  · exact h
  · exact h

theorem removeBarred_log (i : StringNo) (s : State) (h : logConsecutive s.log) :
    logConsecutive (removeBarred i s).log :=
  foldl_keeps (P := fun t => logConsecutive t.log) _ (fun t _ ht => logWrite_consecutive _ (dropEntry _ _ t) ht) _ s h

end Sys2Proof.Laws
end

section
/-! SUPPORT. Every step keeps the promises about the Round Queue, the Demand FIFO and the Round Log. -/

namespace Sys2Proof.Laws

open Sys2Proof.Machine

/-- The parts that the four promises speak of. -/
theorem queuesCarry_of_eq {s t : State} (hq : t.queue = s.queue) (hs : t.strings = s.strings)
    (hf : t.demand.fifo = s.demand.fifo) (hl : logConsecutive s.log → logConsecutive t.log) : queuesCarry s t := by
  refine ⟨?_, ?_, ?_, hl⟩
  · simp [queueKept, hq]
  · simp [queueClearOfBars, recordOf, hq, hs]
  · simp [fifoKept, hf]

/-- A round that begins takes one entry out of the queue and leaves its string held, with no bar (R7, R56). -/
theorem queuesCarry_claim {s t : State} (i : StringNo) (st : StringState) (p : QueueEntry → Bool)
    (hst : st.barCause = none ∧ st.pendingBar = none)
    (hq : t.queue = s.queue.filter p) (hs : t.strings = s.strings.set i { recordOf s i with state := st })
    (hf : t.demand.fifo = s.demand.fifo) (hl : logConsecutive s.log → logConsecutive t.log) : queuesCarry s t := by
  refine ⟨?_, ?_, by simp [fifoKept, hf], hl⟩
  · rw [queueKept_iff, queueKept_iff, hq]
    exact fun ⟨hlen, hdis⟩ => ⟨(List.length_filter_le _ _).trans hlen, hdis.filter _⟩
  · rw [queueClearOfBars_iff, queueClearOfBars_iff, hq]
    intro h e he
    have hold := h e (List.mem_of_mem_filter he)
    by_cases hi : i = e.string
    · simp [recordOf, hs, hi, closedToQueue, hst]
    · have : i.val ≠ e.string.val := fun h => hi (Fin.ext h)
      simpa [recordOf, hs, Vector.getElem_set, this] using hold

/-- A reset empties the queue and the FIFO (R59, R162). -/
theorem queuesCarry_reset {s t : State} (hq : t.queue = []) (hf : t.demand.fifo = [])
    (hl : logConsecutive s.log → logConsecutive t.log) : queuesCarry s t :=
  ⟨fun _ => by simp [queueKept_iff, hq, distinctRounds], fun _ => by simp [queueClearOfBars, hq],
    fun _ => by simp [fifoKept_iff, hf], hl⟩

/-- What `afterLoad` leaves of the parts that the four promises speak of. -/
theorem afterLoad_queues (c : Cause) (s : State) :
    (afterLoad c s).queue = s.queue ∧ (afterLoad c s).demand.fifo = s.demand.fifo
      ∧ (logConsecutive s.log → logConsecutive (afterLoad c s).log) := by
  have raised (u : State) : (if u.store.defaulted then raise .settingsStored u else u).queue = u.queue
      ∧ (if u.store.defaulted then raise .settingsStored u else u).demand = u.demand
      ∧ (if u.store.defaulted then raise .settingsStored u else u).log = u.log := by
    split <;> simp
  obtain ⟨hq, hd, hl⟩ := raised s
  refine ⟨by simp [afterLoad, listInstalled, hq], by simp [afterLoad, listInstalled, hd], fun h => ?_⟩
  simp only [afterLoad, startSafe_frame, listInstalled, modDemand_log]
  exact logWrite_consecutive _ _ (by rw [hl]; exact h)

theorem cleared_consecutive : logConsecutive RoundLog.cleared := by
  rw [logConsecutive_iff]
  intro q r hr
  simp [RoundLog.cleared] at hr

/-- Every basic update keeps the four promises, and so does every claim. -/
theorem queuesCarry_whole : Whole queuesCarry where
  refl _ := ⟨id, id, id, id⟩
  trans h g := ⟨g.1 ∘ h.1, g.2.1 ∘ h.2.1, g.2.2.1 ∘ h.2.2.1, g.2.2.2 ∘ h.2.2.2⟩
  ofQuiet := fun ⟨hs, hq, _, _, hf, hl, _⟩ => queuesCarry_of_eq hq hs hf (by rw [hl]; exact id)
  records s v hv := by
    refine ⟨id, fun h => ?_, id, id⟩
    rw [queueClearOfBars_iff] at h ⊢
    exact fun e he hc => h e he ((hv e.string).2.1 hc)
  barString i st s _ := by
    refine ⟨?_, ?_, by simp [fifoKept], fun h => removeBarred_log _ _ (by simpa using h)⟩
    · rw [queueKept_iff, queueKept_iff, removeBarred_queue]
      rw [(setStringState_frame s i st).2.2.2.2.1]
      exact fun ⟨hlen, hdis⟩ => ⟨(List.length_filter_le _ _).trans hlen, hdis.filter _⟩
    · rw [queueClearOfBars_iff, queueClearOfBars_iff, removeBarred_queue]
      intro h e he
      obtain ⟨he, hne⟩ := List.mem_filter.mp he
      have hrec : recordOf (removeBarred i (setStringState i st s)) e.string = recordOf s e.string := by
        have : ¬ i = e.string := fun h => (of_decide_eq_true hne) h.symm
        simpa [recordOf] using show recordOf (setStringState i st s) e.string = recordOf s e.string by
          rw [setStringState_eq, recordOf_modString, if_neg this]
      rw [hrec]
      exact h e (by simpa using he)
  filterQueue p s := by
    refine ⟨?_, ?_, id, id⟩
    · rw [queueKept_iff, queueKept_iff]
      exact fun ⟨hlen, hdis⟩ => ⟨(List.length_filter_le _ _).trans hlen, hdis.filter _⟩
    · rw [queueClearOfBars_iff, queueClearOfBars_iff]
      exact fun h e he => h e (List.mem_of_mem_filter he)
  mapQueue f s hf := by
    refine ⟨?_, ?_, id, id⟩
    · rw [queueKept_iff, queueKept_iff]
      exact fun ⟨hlen, hdis⟩ => ⟨by simpa using hlen, distinctRounds_map hf hdis⟩
    · rw [queueClearOfBars_iff, queueClearOfBars_iff]
      intro h e he
      obtain ⟨x, hx, rfl⟩ := List.mem_map.mp he
      rw [(hf x).2]
      exact h x hx
  posted e s := by
    rw [post_eq]
    split_ifs with _ hc
    · exact ⟨id, id, id, id⟩
    · exact ⟨id, id, id, id⟩
    · exact ⟨id, id, id, id⟩
    · exact ⟨judgePost_queueKept _ s, judgePost_queueClearOfBars _ s (by simpa [closedToQueue] using hc),
        by simp [fifoKept], judgePost_log _ s⟩
  changeRound _ _ _ _ _ := queuesCarry_of_eq rfl rfl rfl id
  noRound _ := queuesCarry_of_eq rfl rfl rfl id
  changeDose _ _ _ _ _ := queuesCarry_of_eq rfl rfl rfl id
  noDose _ := queuesCarry_of_eq rfl rfl rfl id
  changeFifo l s hl := by
    refine ⟨id, id, ?_, id⟩
    rw [fifoKept_iff, fifoKept_iff]
    intro h
    rcases hl with hl | hl
    · exact hl.trans h
    · exact hl
  logged r s := queuesCarry_of_eq (by simp) (by simp) (by simp) (logWrite_consecutive r s)
  logFlags _ _ _ := queuesCarry_of_eq rfl rfl rfl id
  written _ _ _ _ _ := queuesCarry_of_eq rfl rfl rfl id
  changeStore _ _ _ := queuesCarry_of_eq rfl rfl rfl id
  poweredOn straps s := by
    obtain ⟨hq, hf, hl⟩ := afterLoad_queues .powerOn
      { blocksReset straps s with
        strings := Vector.replicate 8 StringRecord.powerOn, log := RoundLog.cleared, clock := none }
    exact queuesCarry_reset hq hf fun _ => hl cleared_consecutive
  pinWasReset straps s := by
    obtain ⟨hq, hf, hl⟩ := afterLoad_queues .pinRestart
      { blocksReset straps s with strings := s.strings.map StringRecord.pinReset }
    exact queuesCarry_reset hq hf hl
  roundBegins e rn s he _ := by
    obtain ⟨-, -, -, -, hd, -⟩ := (eligibleEqualise_iff s e).mp (selectEqualise_eligible he)
    rw [beginRound_eq e rn s hd]
    exact queuesCarry_claim e.string (.equalise none) _ ⟨rfl, rfl⟩ rfl rfl rfl id
  doseBegins e n s he := by
    obtain ⟨-, -, -, -, -, hd, hh, -⟩ := (eligibleWater_iff s e).mp he
    rw [beginDose_eq e n s hd hh]
    exact queuesCarry_claim e.string (.water none) _ ⟨rfl, rfl⟩ rfl rfl rfl id

/-- Settles O57: every basic update keeps the four promises, and every command is made of basic updates. -/
theorem stepKeepsQueuesAndLog : Obligations.StepKeepsQueuesAndLog := by
  intro s t h
  rcases queuesCarry_whole.step h with rfl | ⟨rest, hc⟩
  · exact ⟨id, id, id, id⟩
  · exact hc

end Sys2Proof.Laws
end

section
/-! SUPPORT. Vectors place by place, and the ranges of the settings: a write that is taken keeps them. -/

namespace Sys2Proof.Laws

open Sys2Proof.Machine

/-! ### Vectors of settings and records -/

theorem all_toList_iff {α : Type} {n : Nat} (v : Vector α n) (p : α → Bool) :
    v.toList.all p = true ↔ ∀ i : Fin n, p v[i] = true := by
  rw [List.all_eq_true]
  constructor
  · exact fun h i => h _ (by simp)
  · intro h x hx
    obtain ⟨i, hi, rfl⟩ := List.mem_iff_getElem.mp hx
    simpa using h ⟨i, by simpa using hi⟩

/-- A property of every place stays when a value that has it is put at one. -/
theorem forall_set {α : Type} {n : Nat} {p : α → Bool} {v : Vector α n} (h : ∀ i : Fin n, p v[i] = true) (j : Fin n)
    {x : α} (hx : p x = true) : ∀ i : Fin n, p (v.set j x)[i] = true := by
  intro i
  simp only [Fin.getElem_fin, Vector.getElem_set]
  split
  · exact hx
  · exact h i

theorem recordsInRange_iff (s : State) : recordsInRange s ↔ ∀ i : StringNo, recordInRange s.strings[i] :=
  all_toList_iff _ _

theorem settleKept_iff (s : State) :
    settleKept s ↔ (∀ i : StringNo, s.strings[i].state.remaining ≤ 240)
      ∧ ∀ r, s.eqc.round = some r → r.recipe.valid := by
  rw [settleKept, Bool.and_eq_true, all_toList_iff]
  cases s.eqc.round <;> simp

/-! ### Settings (R86, R175) -/

/-- `Settings.valid` place by place. -/
theorem settingsValid_iff (t : Settings) :
    t.valid ↔ (∀ n ∈ NumberSetting.siteWide, inRange n.range (n.get t))
      ∧ (∀ i : StringNo, within (-50) 50 t.calibration[i]) ∧ (∀ i : Fin 24, (t.schedule[i]).valid)
      ∧ t.loopMap.toList.Nodup ∧ (∀ m : MemberNo, (t.classes[m]).valid) ∧ ∀ r : Fin 4, (t.recipes[r]).valid := by
  simp only [Settings.valid, Bool.and_eq_true, all_toList_iff, decide_eq_true_eq, and_assoc]
  rw [List.all_eq_true]
  exact Iff.rfl

/-- A number reads back as it was written, where it is in its range. -/
theorem NumberSetting.get_set (n : NumberSetting) (t : Settings) (x : Int) (h : inRange n.range x) :
    n.get (n.set t x) = x := by
  have hx : n.range.1 ≤ x ∧ x ≤ n.range.2 := by simpa [inRange] using h
  cases n
  case calibration i => simp [NumberSetting.get, NumberSetting.set]
  case defaultRecipe i =>
    have h0 : 0 ≤ x ∧ x ≤ 3 := hx
    simp only [NumberSetting.get, NumberSetting.set, Fin.getElem_fin, Vector.getElem_set_self, Fin.val_ofNat]
    omega
  all_goals
    simp only [NumberSetting.range] at hx
    simp only [NumberSetting.get, NumberSetting.set]
    omega

/-- And the other numbers are left as they were. -/
theorem NumberSetting.get_set_ne (m n : NumberSetting) (t : Settings) (x : Int) (h : m ≠ n) :
    m.get (n.set t x) = m.get t := by
  cases n
  case calibration i =>
    cases m
    case calibration j =>
      have : i.val ≠ j.val := fun hij => h (by rw [Fin.ext hij])
      simp [NumberSetting.get, NumberSetting.set, this]
    all_goals rfl
  case defaultRecipe i =>
    cases m
    case defaultRecipe j =>
      have : i.val ≠ j.val := fun hij => h (by rw [Fin.ext hij])
      simp [NumberSetting.get, NumberSetting.set, this]
    all_goals rfl
  all_goals
    cases m
    all_goals first | rfl | exact absurd rfl h

/-- What a write of a number leaves of the other settings. -/
theorem NumberSetting.set_frame (n : NumberSetting) (t : Settings) (x : Int) :
    (n.set t x).installed = t.installed ∧ (n.set t x).schedule = t.schedule ∧ (n.set t x).loopMap = t.loopMap
      ∧ (n.set t x).classes = t.classes ∧ (n.set t x).recipes = t.recipes := by
  cases n <;> exact ⟨rfl, rfl, rfl, rfl, rfl⟩

theorem NumberSetting.set_valid (n : NumberSetting) (t : Settings) (x : Int) (h : inRange n.range x) (ht : t.valid) :
    (n.set t x).valid := by
  obtain ⟨-, hsched, hmap, hclass, hrecipe⟩ := NumberSetting.set_frame n t x
  rw [settingsValid_iff] at ht ⊢
  obtain ⟨hn, hc, hrest⟩ := ht
  rw [hsched, hmap, hclass, hrecipe]
  refine ⟨fun m hm => ?_, fun i => ?_, hrest⟩
  · by_cases hmn : m = n
    · rw [hmn, NumberSetting.get_set n t x h]
      exact h
    · rw [NumberSetting.get_set_ne m n t x hmn]
      exact hn m hm
  · change inRange (NumberSetting.calibration i).range ((NumberSetting.calibration i).get (n.set t x)) = true
    by_cases hin : NumberSetting.calibration i = n
    · rw [hin, NumberSetting.get_set n t x h]
      exact h
    · rw [NumberSetting.get_set_ne _ n t x hin]
      exact hc i

/-- A schedule entry that a write leaves lies in the ranges of Table 3.3 (R39). -/
theorem equaliseWork_valid {old w : ScheduleWork} {r t : Option Nat} (h : equaliseWork old r t = some w)
    (hold : ∀ x y, old = .equalise x y → y ≤ 10000) : ∀ x y, w = .equalise x y → y ≤ 10000 := by
  unfold equaliseWork at h
  split at h
  · split at h
    · split at h
      · cases h
        intro x y hw
        cases hw
        assumption
      · cases h
    · cases h
  · split at h
    · cases h
      intro x y hw
      cases hw
      exact hold _ _ rfl
    · cases h
  · split at h
    · cases h
      intro x y hw
      cases hw
      assumption
    · cases h
  · cases h
    exact hold
  · cases h

theorem equaliseWork_kind {old w : ScheduleWork} {r t : Option Nat} (h : equaliseWork old r t = some w) :
    ∃ x y, w = .equalise x y := by
  unfold equaliseWork at h
  repeat' split at h
  all_goals first
    | exact ⟨_, _, (Option.some.inj h).symm⟩
    | cases h

theorem waterWork_valid {old w : ScheduleWork} {n : Option Nat} (h : waterWork old n = some w)
    (hold : ∀ x, old = .water x → 1 ≤ x ∧ x ≤ 10000) : ∃ x, w = .water x ∧ 1 ≤ x ∧ x ≤ 10000 := by
  unfold waterWork at h
  split at h
  · split at h
    · rename_i hn
      exact ⟨_, (Option.some.inj h).symm, hn⟩
    · cases h
  · exact ⟨_, (Option.some.inj h).symm, hold _ rfl⟩
  · cases h

theorem scheduleEntry_valid_iff (e : ScheduleEntry) :
    e.valid ↔ 1 ≤ e.interval ∧ e.interval ≤ 4000 ∧ (∀ x y, e.work = .equalise x y → y ≤ 10000)
      ∧ ∀ x, e.work = .water x → 1 ≤ x ∧ x ≤ 10000 := by
  unfold ScheduleEntry.valid
  cases hw : e.work <;> simp [and_assoc]

theorem scheduleEntryOf_valid {old e : ScheduleEntry} {v : List Octet} (h : scheduleEntryOf old v = some e)
    (hold : old.valid) : e.valid := by
  obtain ⟨-, -, hoe, how⟩ := (scheduleEntry_valid_iff old).mp hold
  rw [scheduleEntry_valid_iff]
  unfold scheduleEntryOf at h
  split at h
  · dsimp only at h
    split at h
    · rename_i hb
      obtain ⟨-, -, -, hlo, hhi⟩ := hb
      split at h
      · rename_i x w _ hw
        obtain rfl := Option.some.inj h
        refine ⟨hlo, hhi, ?_⟩
        split at hw
        · obtain ⟨a, b, rfl⟩ := equaliseWork_kind hw
          exact ⟨equaliseWork_valid hw hoe, fun _ hx => by cases hx⟩
        · obtain ⟨a, rfl, ha⟩ := waterWork_valid hw how
          exact ⟨fun _ _ hx => (by cases hx), fun x hx => by cases hx; exact ha⟩
      · cases h
    · cases h
  · cases h

theorem loopMapOf_nodup {v : List Octet} {m : Vector MemberNo 10} (h : loopMapOf v = some m) : m.toList.Nodup := by
  unfold loopMapOf at h
  split at h
  · dsimp only at h
    split at h
    · rename_i hn
      obtain rfl := Option.some.inj h
      exact hn
    · cases h
  · cases h

theorem classEntryOf_valid {v : List Octet} {c : ClassEntry} (h : classEntryOf v = some c) : c.valid := by
  unfold classEntryOf at h
  split at h
  · split at h
    · split at h
      · rename_i hb
        obtain rfl := Option.some.inj h
        simpa [ClassEntry.valid, and_assoc] using hb
      · cases h
    · cases h
  · cases h

theorem RecipeParam.get_set (p : RecipeParam) (rc : Recipe) (x : Int) (h : inRange p.range x) :
    p.get (p.set rc x) = x := by
  have hx : p.range.1 ≤ x ∧ x ≤ p.range.2 := by simpa [inRange] using h
  cases p
  case k => rfl
  all_goals
    simp only [RecipeParam.range] at hx
    simp only [RecipeParam.get, RecipeParam.set]
    omega

theorem RecipeParam.get_set_ne (p q : RecipeParam) (rc : Recipe) (x : Int) (h : p ≠ q) :
    p.get (q.set rc x) = p.get rc := by
  cases q
  all_goals
    cases p
    all_goals first | rfl | exact absurd rfl h

theorem recipe_valid_iff (rc : Recipe) :
    rc.valid ↔ (∀ p ∈ RecipeParam.all, inRange p.range (p.get rc)) ∧ rc.consistent := by
  simp [Recipe.valid]

theorem RecipeParam.set_valid (p : RecipeParam) (rc : Recipe) (x : Int) (h : inRange p.range x)
    (hc : (p.set rc x).consistent) (hrc : rc.valid) : (p.set rc x).valid := by
  rw [recipe_valid_iff] at hrc ⊢
  refine ⟨fun q hq => ?_, hc⟩
  by_cases hqp : q = p
  · rw [hqp, RecipeParam.get_set p rc x h]
    exact h
  · rw [RecipeParam.get_set_ne q p rc x hqp]
    exact hrc.1 q hq

theorem rangeJudged_taken {o : Option Settings} {t : Settings} (h : rangeJudged o = .taken t) : o = some t := by
  unfold rangeJudged at h
  split at h <;> simp_all

/-- A write that is taken leaves the settings in their ranges (R17, R39, R86, R136, R175). -/
theorem judgeWrite_valid {s : State} {x : Setting} {v : List Octet} {t : Settings}
    (h : judgeWrite s x v = .taken t) (hs : s.settings.valid) : t.valid := by
  have hs' := (settingsValid_iff _).mp hs
  obtain ⟨hnum, hcal, hsch, hmap, hcls, hrec⟩ := hs'
  cases x with
  | number n =>
    obtain ⟨y, hy, rfl⟩ := Option.map_eq_some_iff.mp (rangeJudged_taken h)
    exact NumberSetting.set_valid n _ y (Option.filter_eq_some_iff.mp hy).2 hs
  | installed i =>
    unfold judgeWrite at h
    dsimp only at h
    split at h
    · split_ifs at h
      cases h
      exact (settingsValid_iff _).mpr ⟨hnum, hcal, hsch, hmap, hcls, hrec⟩
    · cases h
  | schedule i =>
    obtain ⟨e, he, rfl⟩ := Option.map_eq_some_iff.mp (rangeJudged_taken h)
    exact (settingsValid_iff _).mpr
      ⟨hnum, hcal, forall_set hsch i (scheduleEntryOf_valid he (hsch i)), hmap, hcls, hrec⟩
  | loopMap =>
    obtain ⟨m, hm, rfl⟩ := Option.map_eq_some_iff.mp (rangeJudged_taken h)
    exact (settingsValid_iff _).mpr ⟨hnum, hcal, hsch, loopMapOf_nodup hm, hcls, hrec⟩
  | classEntry m =>
    obtain ⟨c, hc, rfl⟩ := Option.map_eq_some_iff.mp (rangeJudged_taken h)
    exact (settingsValid_iff _).mpr ⟨hnum, hcal, hsch, hmap, forall_set hcls m (classEntryOf_valid hc), hrec⟩
  | recipe r p =>
    unfold judgeWrite at h
    dsimp only at h
    split at h
    · cases h
    · rename_i y hy
      split_ifs at h with hcons
      cases h
      have hvalid := RecipeParam.set_valid p _ y (Option.filter_eq_some_iff.mp hy).2 (by simpa using hcons) (hrec r)
      exact (settingsValid_iff _).mpr ⟨hnum, hcal, hsch, hmap, hcls, forall_set hrec r hvalid⟩

theorem factory_valid : Settings.factory.valid := by decide +kernel

end Sys2Proof.Laws
end

section
/-! SUPPORT. What every reset leaves of the loop, with the safe-state sequence begun. -/

namespace Sys2Proof.Laws

open Sys2Proof.Machine

/-! ### What every reset leaves (R20, R21, R151, R152, R162, R170, R174, R177) -/

theorem stringsInLoopOrder_installed {s : State} {i : StringNo} (h : i ∈ stringsInLoopOrder s) :
    isInstalled s i = true := (List.mem_filter.mp h).2

/-- The steps of a sequence that starts with every member present (R151). -/
theorem safeSteps_allPresent (s : State) (h : ∀ m, isPresent s m = true) :
    safeSteps s = (stringsInLoopOrder s).map SafeStep.close ++ [.pumpOff, .boost] := by
  rw [safeSteps, List.filter_eq_self.mpr fun i _ => h (nodeOf i)]

/-- A loop just reset starts the sequence with its first transaction in flight (R151, R152). -/
theorem startSafe_reset (s : State) (h : s.loop = Loop.reset) :
    startSafe s = { s with loop := loopAfterReset s } := by
  have hpres : ∀ m, isPresent s m = true := fun m => by simp [isPresent, h, Loop.reset]
  have hrel : s.loop.release = .safeState false none := by rw [h]; rfl
  have hcw : s.loop.claimWater = none := by rw [h]; rfl
  simp only [startSafe, hrel, safeSteps_allPresent s hpres]
  cases hl : stringsInLoopOrder s with
  | nil =>
    simp [nextSafe, setRelease, modLoop, SafeStep.dropped, sendStep, servePumpOff, hcw, startTransaction,
      setInFlight, loopAfterReset, firstSafe, laterSafe, hl]
    rw [h]
    simp [Loop.reset]
  | cons i rest =>
    have hi : isInstalled s i = true := stringsInLoopOrder_installed (by rw [hl]; exact List.mem_cons_self)
    have hd (t : State) (ht : t.settings = s.settings) : SafeStep.dropped t (.close i) = false := by
      simpa [SafeStep.dropped, isInstalled, ht] using hi
    simp [nextSafe, setRelease, modLoop, hd, sendStep, startTransaction, setInFlight, loopAfterReset, firstSafe,
      laterSafe, hl]
    rw [h]
    simp [Loop.reset]

/-- What `afterLoad` leaves where the loop has been reset. -/
theorem afterLoad_eq (c : Cause) (s : State) (h : s.loop = Loop.reset) :
    afterLoad c s =
      let u := listInstalled (logWrite (LogRecord.restart 0 c s.clock)
        (if s.store.defaulted then raise .settingsStored s else s))
      { u with loop := loopAfterReset u } := by
  have hc : (if s.store.defaulted then raise .settingsStored s else s).clock = s.clock := by split <;> rfl
  have hl : (if s.store.defaulted then raise .settingsStored s else s).loop = s.loop := by split <;> rfl
  simp only [afterLoad, hc]
  rw [startSafe_reset]
  simp [listInstalled, hl, h]

end Sys2Proof.Laws
end

section
/-! SUPPORT. Every step keeps the ranges of records and settings. -/

namespace Sys2Proof.Laws

open Sys2Proof.Machine

/-- The ranges that a step keeps (Table 1.2, R86, R10). -/
def rangesCarry (s t : State) : Prop :=
  (recordsInRange s → recordsInRange t) ∧ (settingsKept s → settingsKept t)
    ∧ (settingsKept s → settleKept s → settleKept t)

theorem settingsKept_iff (s : State) : settingsKept s ↔ s.settings.valid ∧ s.store.copy.valid := by
  simp [settingsKept]

/-- An update that leaves the settings and the copy, with no record or round that leaves its ranges. -/
theorem rangesCarry_of {s t : State} (hrec : recordsInRange s → recordsInRange t) (hset : t.settings = s.settings)
    (hcopy : t.store.copy = s.store.copy) (hsettle : settingsKept s → settleKept s → settleKept t) :
    rangesCarry s t := by
  refine ⟨hrec, ?_, hsettle⟩
  simp [settingsKept, hset, hcopy]

/-- One that leaves the strings, the settings and the copy, and no other round than one with the same recipe. -/
theorem rangesCarry_of_eq {s t : State} (hs : t.strings = s.strings) (hset : t.settings = s.settings)
    (hcopy : t.store.copy = s.store.copy)
    (hr : ∀ r, t.eqc.round = some r → ∃ x, s.eqc.round = some x ∧ r.recipe = x.recipe) : rangesCarry s t := by
  refine rangesCarry_of (by simp [recordsInRange, hs]) hset hcopy fun _ h => ?_
  rw [settleKept_iff] at h ⊢
  refine ⟨by rw [hs]; exact h.1, fun r hround => ?_⟩
  obtain ⟨x, hx, he⟩ := hr r hround
  rw [he]
  exact h.2 x hx

theorem record_set_range {v : Vector StringRecord 8} {r : StringRecord} {i : StringNo}
    (h : ∀ j : StringNo, recordInRange v[j]) (hr : recordInRange r) : ∀ j : StringNo, recordInRange (v.set i r)[j] :=
  forall_set h i hr

theorem remaining_set_le {v : Vector StringRecord 8} {r : StringRecord} {i : StringNo}
    (h : ∀ j : StringNo, v[j].state.remaining ≤ 240) (hr : r.state.remaining ≤ 240) :
    ∀ j : StringNo, (v.set i r)[j].state.remaining ≤ 240 := by
  intro j
  have := forall_set (p := fun r : StringRecord => decide (r.state.remaining ≤ 240)) (v := v)
    (fun k => decide_eq_true (h k)) i (x := r) (decide_eq_true hr) j
  exact of_decide_eq_true this

/-- A string that takes another state without a settle time keeps its record's ranges. -/
theorem rangesCarry_setState {s t : State} (i : StringNo) (st : StringState) (h0 : st.remaining = 0)
    (hs : t.strings = s.strings.set i { recordOf s i with state := st }) (hset : t.settings = s.settings)
    (hcopy : t.store.copy = s.store.copy)
    (hr : ∀ r, t.eqc.round = some r → (s.eqc.round = some r) ∨ (∃ k : Fin 4, r.recipe = s.settings.recipes[k])) :
    rangesCarry s t := by
  refine rangesCarry_of (fun h => ?_) hset hcopy fun hkept h => ?_
  · rw [recordsInRange_iff] at h ⊢
    rw [hs]
    exact record_set_range h (h i)
  · rw [settleKept_iff] at h ⊢
    rw [hs]
    refine ⟨remaining_set_le h.1 (by simp [h0]), fun r hround => ?_⟩
    rcases hr r hround with hold | ⟨k, hk⟩
    · exact h.2 r hold
    · obtain ⟨-, -, -, -, -, hrecipes⟩ := (settingsValid_iff _).mp ((settingsKept_iff s).mp hkept).1
      rw [hk]
      exact hrecipes k

theorem powerOn_inRange : recordInRange StringRecord.powerOn := by decide

theorem pinReset_inRange (r : StringRecord) (h : recordInRange r) : recordInRange r.pinReset := by
  simp only [recordInRange, Bool.and_eq_true] at h ⊢
  simp_all [StringRecord.pinReset, within]

theorem pinReset_remaining (r : StringRecord) : r.pinReset.state.remaining = 0 := by
  unfold StringRecord.pinReset
  dsimp only
  split <;> rfl

theorem loadedSettings_valid {st : Store} (h : st.copy.valid) : (loadedSettings st).valid := by
  unfold loadedSettings
  split
  · exact h
  · exact factory_valid

/-- A reset leaves no round, loads valid settings and keeps the copy (R84, R177). -/
theorem rangesCarry_reset {s t : State} (hrec : recordsInRange s → recordsInRange t)
    (hrem : ∀ i : StringNo, t.strings[i].state.remaining = 0) (hround : t.eqc.round = none)
    (hset : t.settings = loadedSettings s.store) (hcopy : t.store.copy = s.store.copy) : rangesCarry s t := by
  refine ⟨hrec, fun h => ?_, fun _ _ => ?_⟩
  · rw [settingsKept_iff] at h ⊢
    rw [hset, hcopy]
    exact ⟨loadedSettings_valid h.2, h.2⟩
  · rw [settleKept_iff]
    exact ⟨fun i => by rw [hrem i]; exact Nat.zero_le _, fun r hr => by rw [hround] at hr; cases hr⟩

/-- What `afterLoad` leaves, where the loop has been reset, of the parts that the ranges speak of. -/
theorem afterLoad_ranges (c : Cause) (s : State) (h : s.loop = Loop.reset) :
    (afterLoad c s).strings = s.strings ∧ (afterLoad c s).eqc = s.eqc ∧ (afterLoad c s).settings = s.settings
      ∧ (afterLoad c s).store = s.store := by
  rw [afterLoad_eq c s h]
  cases hb : s.store.defaulted <;> simp [listInstalled]

/-- Every basic update keeps the ranges, and so does every claim. -/
theorem rangesCarry_whole : Whole rangesCarry where
  refl _ := ⟨id, id, fun _ => id⟩
  trans h g := ⟨g.1 ∘ h.1, g.2.1 ∘ h.2.1, fun hk hs => g.2.2 (h.2.1 hk) (h.2.2 hk hs)⟩
  ofQuiet := fun ⟨hs, _, hr, _, _, _, hset, hstore, _⟩ =>
    rangesCarry_of_eq hs hset (by rw [hstore]) (by rw [hr]; exact fun r h => ⟨r, h, rfl⟩)
  records s v hv := by
    refine rangesCarry_of (fun h => ?_) rfl rfl fun hkept h => ?_
    · rw [recordsInRange_iff] at h ⊢
      exact fun i => (hv i).1 (h i)
    · rw [settleKept_iff] at h ⊢
      refine ⟨fun i => ?_, h.2⟩
      rcases (hv i).2.2 with hle | ⟨x, hx, hst⟩
      · exact hle.trans (h.1 i)
      · have hin := ((recipe_valid_iff _).mp (h.2 x hx)).1 .settleTime (by decide)
        have : (0 : Int) ≤ x.recipe.settleTime ∧ (x.recipe.settleTime : Int) ≤ 240 := by
          simpa [inRange, RecipeParam.range, RecipeParam.get] using hin
        rw [hst]
        omega
  barString i st s h0 :=
    rangesCarry_setState i st h0 (by simp [setStringState, recordOf]) (by simp) (by simp)
      fun r hr => .inl (by simpa using hr)
  filterQueue _ _ := rangesCarry_of_eq rfl rfl rfl fun r h => ⟨r, h, rfl⟩
  mapQueue _ _ _ := rangesCarry_of_eq rfl rfl rfl fun r h => ⟨r, h, rfl⟩
  posted e s := rangesCarry_of_eq (by simp) (by simp) (by simp) fun r h => ⟨r, by simpa using h, rfl⟩
  changeRound r r' s hr hk := rangesCarry_of_eq rfl rfl rfl fun x hx => by
    obtain rfl := Option.some.inj hx
    exact ⟨r, hr, hk.1⟩
  noRound s := rangesCarry_of_eq rfl rfl rfl fun x hx => by simp at hx
  changeDose _ _ _ _ _ := rangesCarry_of_eq rfl rfl rfl fun r h => ⟨r, h, rfl⟩
  noDose _ := rangesCarry_of_eq rfl rfl rfl fun r h => ⟨r, h, rfl⟩
  changeFifo _ _ _ := rangesCarry_of_eq rfl rfl rfl fun r h => ⟨r, h, rfl⟩
  logged _ s := rangesCarry_of_eq (by simp) (by simp) (by simp) fun r h => ⟨r, by simpa using h, rfl⟩
  logFlags _ _ _ := rangesCarry_of_eq rfl rfl rfl fun r h => ⟨r, h, rfl⟩
  written s x v t ht := by
    refine ⟨id, fun h => ?_, fun _ => id⟩
    rw [settingsKept_iff] at h ⊢
    exact ⟨judgeWrite_valid ht h.1, h.2⟩
  changeStore s x hx := by
    refine ⟨id, fun h => ?_, fun _ => id⟩
    rw [settingsKept_iff] at h ⊢
    rcases hx with hx | hx
    · exact ⟨h.1, by rw [hx]; exact h.2⟩
    · exact ⟨h.1, by rw [hx]; exact h.1⟩
  poweredOn straps s := by
    obtain ⟨hs, he, hset, hstore⟩ := afterLoad_ranges .powerOn
      { blocksReset straps s with
        strings := Vector.replicate 8 StringRecord.powerOn, log := RoundLog.cleared, clock := none } rfl
    change rangesCarry s (afterLoad _ _)
    refine rangesCarry_reset (fun _ => ?_) (fun i => ?_) (by rw [he]; rfl) (by rw [hset]; rfl) (by rw [hstore]; rfl)
    · rw [recordsInRange_iff, hs]
      intro i
      simpa using powerOn_inRange
    · rw [hs]
      simp [StringRecord.powerOn, StringState.remaining]
  pinWasReset straps s := by
    obtain ⟨hs, he, hset, hstore⟩ := afterLoad_ranges .pinRestart
      { blocksReset straps s with strings := s.strings.map StringRecord.pinReset } rfl
    change rangesCarry s (afterLoad _ _)
    refine rangesCarry_reset (fun h => ?_) (fun i => ?_) (by rw [he]; rfl) (by rw [hset]; rfl) (by rw [hstore]; rfl)
    · rw [recordsInRange_iff] at h ⊢
      rw [hs]
      intro i
      simpa using pinReset_inRange _ (h i)
    · rw [hs]
      simp [pinReset_remaining]
  roundBegins e rn s he _ := by
    obtain ⟨-, -, -, -, hd, -⟩ := (eligibleEqualise_iff s e).mp (selectEqualise_eligible he)
    rw [beginRound_eq e rn s hd]
    refine rangesCarry_setState e.string (.equalise none) rfl rfl rfl rfl fun r hr => .inr ⟨rn, ?_⟩
    obtain rfl := Option.some.inj hr
    rfl
  doseBegins e n s he := by
    obtain ⟨-, -, -, -, -, hd, hh, -⟩ := (eligibleWater_iff s e).mp he
    rw [beginDose_eq e n s hd hh]
    exact rangesCarry_setState e.string (.water none) rfl rfl rfl rfl fun r hr => .inl hr

/-- Settles O58: every basic update keeps the ranges, and every command is made of basic updates. -/
theorem stepKeepsTheRanges : Obligations.StepKeepsTheRanges := by
  intro s t h
  rcases rangesCarry_whole.step h with rfl | ⟨rest, hc⟩
  · exact ⟨id, id, fun _ => id⟩
  · exact hc

end Sys2Proof.Laws
end

section
/-! SUPPORT. What a dose and a round keep in every command, and how dispatch begins a round. -/

namespace Sys2Proof.Laws

open Sys2Proof.Machine

/-! ### A dose that is under way (R110) -/

/-- No dose begins, and one that goes on keeps its number and an outcome decided. -/
def doseStands (s t : State) : Prop :=
  (s.wac.dose = none → t.wac.dose = none)
    ∧ ∀ d, s.wac.dose = some d → t.wac.dose = none ∨ ∃ x, t.wac.dose = some x ∧ doseKept d x

theorem doseStands_of_eq {s t : State} (h : t.wac.dose = s.wac.dose) : doseStands s t :=
  ⟨fun hs => by rw [h, hs], fun d hd => .inr ⟨d, by rw [h, hd], rfl, fun _ => rfl⟩⟩

theorem doseStands_of_none {s t : State} (h : t.wac.dose = none) : doseStands s t := ⟨fun _ => h, fun _ _ => .inl h⟩

theorem doseStands_judged : Judged doseStands where
  refl _ := doseStands_of_eq rfl
  trans := by
    rintro s t u ⟨hn, hs⟩ ⟨gn, gs⟩
    refine ⟨gn ∘ hn, fun d hd => ?_⟩
    rcases hs d hd with ht | ⟨x, hx, hnum, hout⟩
    · exact .inl (gn ht)
    · rcases gs x hx with hu | ⟨y, hy, hnum', hout'⟩
      · exact .inl hu
      · refine .inr ⟨y, hy, hnum'.trans hnum, fun h => ?_⟩
        rw [hout' (by rw [hout h]; exact h), hout h]
  ofQuiet := fun ⟨_, _, _, hd, _⟩ => doseStands_of_eq hd
  records _ _ _ := doseStands_of_eq rfl
  barString _ _ _ _ := doseStands_of_eq (by simp)
  filterQueue _ _ := doseStands_of_eq rfl
  mapQueue _ _ _ := doseStands_of_eq rfl
  posted _ _ := doseStands_of_eq (by simp)
  changeRound _ _ _ _ _ := doseStands_of_eq rfl
  noRound _ := doseStands_of_eq rfl
  changeDose d d' s hd hk :=
    ⟨fun hn => absurd (hn.symm.trans hd) (by simp), fun x hx => .inr ⟨d', rfl, by rwa [Option.some.inj (hx.symm.trans hd)]⟩⟩
  noDose _ := doseStands_of_none rfl
  changeFifo _ _ _ := doseStands_of_eq rfl
  logged _ _ := doseStands_of_eq (by simp)
  logFlags _ _ _ := doseStands_of_eq rfl
  written _ _ _ _ _ := doseStands_of_eq rfl
  changeStore _ _ _ := doseStands_of_eq rfl
  roundBegins _ _ _ _ _ := doseStands_of_eq (by simp)

/-! ### A round that is under way (R74) -/

/-- No number is drawn and no round begins, and one that goes on keeps its number and an outcome decided. -/
def roundStands (s t : State) : Prop :=
  t.log.roundNumber = s.log.roundNumber ∧ (s.eqc.round = none → t.eqc.round = none)
    ∧ ∀ r, s.eqc.round = some r →
      t.eqc.round = none ∨ ∃ x, t.eqc.round = some x ∧ x.number = r.number ∧ (r.outcome.isSome → x.outcome = r.outcome)

theorem roundStands_of_eq {s t : State} (hl : t.log.roundNumber = s.log.roundNumber) (h : t.eqc.round = s.eqc.round) :
    roundStands s t :=
  ⟨hl, fun hs => by rw [h, hs], fun r hr => .inr ⟨r, by rw [h, hr], rfl, fun _ => rfl⟩⟩

theorem logWrite_roundNumber (r : LogRecord) (s : State) :
    (logWrite r s).log.roundNumber = s.log.roundNumber := by
  simp [logWrite_eq, raiseAll, logAfter]

theorem removeBarred_roundNumber (i : StringNo) (s : State) :
    (removeBarred i s).log.roundNumber = s.log.roundNumber :=
  foldl_keeps (P := fun t => t.log.roundNumber = s.log.roundNumber) _
    (fun t _ ht => (logWrite_roundNumber _ (dropEntry _ _ t)).trans ht) _ s rfl

theorem post_roundNumber (e : QueueEntry) (s : State) : (post e s).1.log.roundNumber = s.log.roundNumber := by
  have displaced (old e : QueueEntry) : (displace old e s).log.roundNumber = s.log.roundNumber :=
    logWrite_roundNumber _ (dropEntry old.kind old.string s)
  unfold post judgePost
  repeat' split
  all_goals first | rfl | exact displaced _ _

theorem roundStands_basic : Basic roundStands where
  refl _ := roundStands_of_eq rfl rfl
  trans := by
    rintro s t u ⟨hl, hn, hs⟩ ⟨gl, gn, gs⟩
    refine ⟨gl.trans hl, gn ∘ hn, fun r hr => ?_⟩
    rcases hs r hr with ht | ⟨x, hx, hnum, hout⟩
    · exact .inl (gn ht)
    · rcases gs x hx with hu | ⟨y, hy, hnum', hout'⟩
      · exact .inl hu
      · refine .inr ⟨y, hy, hnum'.trans hnum, fun h => ?_⟩
        rw [hout' (by rw [hout h]; exact h), hout h]
  ofQuiet := fun ⟨_, _, hr, _, _, hl, _⟩ => roundStands_of_eq (by rw [hl]) hr
  records _ _ _ := roundStands_of_eq rfl rfl
  barString i st s _ := roundStands_of_eq (by simp [removeBarred_roundNumber]) (by simp)
  filterQueue _ _ := roundStands_of_eq rfl rfl
  mapQueue _ _ _ := roundStands_of_eq rfl rfl
  posted e s := roundStands_of_eq (post_roundNumber e s) (by simp)
  changeRound r r' s hr hk :=
    ⟨rfl, fun hn => absurd (hn.symm.trans hr) (by simp),
      fun x hx => .inr ⟨r', rfl, by rw [Option.some.inj (hx.symm.trans hr)]; exact ⟨hk.2.1, hk.2.2⟩⟩⟩
  noRound _ := ⟨rfl, fun _ => rfl, fun _ _ => .inl rfl⟩
  changeDose _ _ _ _ _ := roundStands_of_eq rfl rfl
  noDose _ := roundStands_of_eq rfl rfl
  changeFifo _ _ _ := roundStands_of_eq rfl rfl
  logged r s := roundStands_of_eq (logWrite_roundNumber r s) (by simp)
  logFlags _ _ _ := roundStands_of_eq rfl rfl
  written _ _ _ _ _ := roundStands_of_eq rfl rfl
  changeStore _ _ _ := roundStands_of_eq rfl rfl

/-! ### What the judgement of dispatch does to the Equalise Channel -/

/-- A round that has just begun in the state: undecided, not paused, with the number just drawn (R61, R63). -/
def roundBegun (n : Half) (t : State) : Prop :=
  t.eqc.state ≠ .idle ∧ t.log.roundNumber = n
    ∧ ∃ x, t.eqc.round = some x ∧ x.outcome = none ∧ x.pause = none ∧ x.number = n

theorem judgeEqc_eqc (s : State) :
    ((judgeEqc s).eqc = s.eqc ∧ (judgeEqc s).log = s.log)
      ∨ (s.eqc.state = .idle ∧ roundBegun (s.log.roundNumber + 1) (judgeEqc s)) := by
  unfold judgeEqc
  split
  · rename_i e he
    split
    · rename_i rn _
      obtain ⟨-, -, hidle, -, hd, -⟩ := (eligibleEqualise_iff s e).mp (selectEqualise_eligible he)
      rw [beginRound_eq e rn s hd]
      exact .inr ⟨hidle, by simp, rfl, _, rfl, rfl, rfl, rfl⟩
    · exact .inl ⟨rfl, rfl⟩
  · exact .inl ⟨rfl, rfl⟩

theorem judgeWindowNeeded_eqc (s : State) :
    (judgeWindowNeeded s).eqc = s.eqc ∧ (judgeWindowNeeded s).log = s.log := by
  unfold judgeWindowNeeded
  dsimp only
  split <;> simp

/-- Dispatch leaves the round and the numbers, or begins a round in IDLE (R53, R61). -/
theorem judge_eqc (s : State) :
    ((judge s).eqc = s.eqc ∧ (judge s).log = s.log)
      ∨ (s.eqc.state = .idle ∧ roundBegun (s.log.roundNumber + 1) (judge s)) := by
  obtain ⟨he, hl⟩ := judgeWindowNeeded_eqc (judgeChannels s)
  have key : ((judgeChannels s).eqc = s.eqc ∧ (judgeChannels s).log = s.log)
      ∨ (s.eqc.state = .idle ∧ roundBegun (s.log.roundNumber + 1) (judgeChannels s)) := by
    have wacLast (u : State) (h : u.eqc = s.eqc ∧ u.log = s.log) :
        ((judgeWac (judgeEqc u)).eqc = s.eqc ∧ (judgeWac (judgeEqc u)).log = s.log)
          ∨ (s.eqc.state = .idle ∧ roundBegun (s.log.roundNumber + 1) (judgeWac (judgeEqc u))) := by
      have := judgeEqc_eqc u
      rw [h.1, h.2] at this
      simpa [roundBegun] using this
    unfold judgeChannels
    dsimp only
    split_ifs
    · have := judgeEqc_eqc (judgeWac { s with free := s.free + 1 })
      simpa using this
    · exact wacLast { s with free := s.free + 1 } ⟨rfl, rfl⟩
    · exact wacLast s ⟨rfl, rfl⟩
  simpa only [judge, roundBegun, he, hl] using key

end Sys2Proof.Laws
end

section
/-! SUPPORT. A decided round over the site tick and the traversal of the Schedule List. -/

namespace Sys2Proof.Laws

open Sys2Proof.Machine

/-! ### What becomes of a decided round -/

/-- The fate of a decided round, as the statement has it (R61, R74). -/
def roundFate (s t : State) : Prop :=
  ∀ r : Round, s.eqc.round = some r → r.outcome.isSome →
    t.eqc.round = none
      ∨ (∃ x : Round, t.eqc.round = some x ∧ x.outcome = r.outcome ∧ x.number = r.number)
      ∨ (∃ x : Round, t.eqc.round = some x ∧ x.outcome = none ∧ x.number ≠ s.log.roundNumber
        ∧ (x.number - s.log.roundNumber).toNat ≤ (t.log.roundNumber - s.log.roundNumber).toNat)

theorem roundFate_of_stands {s t : State} (h : roundStands s t) : roundFate s t := by
  intro r hr ho
  rcases h.2.2 r hr with hn | ⟨x, hx, hnum, hout⟩
  · exact .inl hn
  · exact .inr (.inl ⟨x, hx, hout ho, hnum⟩)

theorem roundFate_quietly {s t u : State} (h : roundFate s t) (hr : u.eqc.round = t.eqc.round)
    (hl : u.log.roundNumber = t.log.roundNumber) : roundFate s u := by
  intro r hs ho
  rw [hr, hl]
  exact h r hs ho

/-- A round begun with a number just drawn follows the decided one. -/
theorem roundFate_of_begun {s t : State} {n : Half} (h : roundBegun n t) (hn : n ≠ s.log.roundNumber) :
    roundFate s t := by
  intro r _ _
  obtain ⟨-, hl, x, hx, hout, -, hnum⟩ := h
  exact .inr (.inr ⟨x, hx, hout, by rwa [hnum], by rw [hnum, hl]⟩)

/-- What has kept the round, with no more than one number drawn, and a judgement of dispatch after it. -/
theorem roundFate_judge {s u : State} (h : roundFate s u)
    (hl : u.log.roundNumber = s.log.roundNumber ∨ u.log.roundNumber = s.log.roundNumber + 1) :
    roundFate s (judge u) := by
  rcases judge_eqc u with ⟨he, hlog⟩ | ⟨-, hb⟩
  · exact roundFate_quietly h (by rw [he]) (by rw [hlog])
  · refine roundFate_of_begun hb ?_
    rcases hl with hl | hl
    · rw [hl]
      bv_omega
    · rw [hl]
      bv_omega

theorem roundFate_thenJudged {s t : State} (h : thenJudged roundStands s t) : roundFate s t := by
  obtain ⟨u, hu, hq | hq⟩ := h
  · exact roundFate_quietly (roundFate_of_stands hu) hq.2.2.1 (by rw [hq.2.2.2.2.2.1])
  · exact roundFate_quietly (roundFate_judge (roundFate_of_stands hu) (.inl hu.1)) hq.2.2.1 (by rw [hq.2.2.2.2.2.1])

/-! ### The larger commands: the site tick and the traversal of the Schedule List -/

/-- A tick neither ends a decided round nor decides one that it begins: the round stands, or one has begun. -/
def heldOver (s : State) (r : Round) (t : State) : Prop :=
  (t.log.roundNumber = s.log.roundNumber
      ∧ ∃ x, t.eqc.round = some x ∧ x.outcome = r.outcome ∧ x.number = r.number)
    ∨ roundBegun (s.log.roundNumber + 1) t

/-- What leaves a round under way where it stands: nothing is drawn, decided, ended or begun. -/
def goesOn (t u : State) : Prop :=
  u.log.roundNumber = t.log.roundNumber ∧ (t.eqc.state ≠ .idle → u.eqc.state ≠ .idle)
    ∧ ∀ x, t.eqc.round = some x →
      ∃ y, u.eqc.round = some y ∧ y.number = x.number ∧ y.outcome = x.outcome ∧ (x.pause = none → y.pause = none)

theorem goesOn_trans {t u v : State} (h : goesOn t u) (g : goesOn u v) : goesOn t v := by
  refine ⟨g.1.trans h.1, g.2.1 ∘ h.2.1, fun x hx => ?_⟩
  obtain ⟨y, hy, hnum, hout, hp⟩ := h.2.2 x hx
  obtain ⟨z, hz, hnum', hout', hp'⟩ := g.2.2 y hy
  exact ⟨z, hz, hnum'.trans hnum, hout'.trans hout, hp' ∘ hp⟩

theorem goesOn_of_eq {t u : State} (he : u.eqc = t.eqc) (hl : u.log.roundNumber = t.log.roundNumber) : goesOn t u :=
  ⟨hl, by rw [he]; exact id, fun x hx => ⟨x, by rw [he, hx], rfl, rfl, id⟩⟩

theorem goesOn_refl (t : State) : goesOn t t := goesOn_of_eq rfl rfl

theorem heldOver_goesOn {s t u : State} {r : Round} (h : heldOver s r t) (g : goesOn t u) : heldOver s r u := by
  rcases h with ⟨hl, x, hx, hout, hnum⟩ | ⟨hst, hl, x, hx, hout, hp, hnum⟩
  · obtain ⟨y, hy, hnum', hout', -⟩ := g.2.2 x hx
    exact .inl ⟨g.1.trans hl, y, hy, hout'.trans hout, hnum'.trans hnum⟩
  · obtain ⟨y, hy, hnum', hout', hp'⟩ := g.2.2 x hx
    exact .inr ⟨g.2.1 hst, g.1.trans hl, y, hy, hout'.trans hout, hp' hp, hnum'.trans hnum⟩

theorem heldOver_judge {s t : State} {r : Round} (h : heldOver s r t) : heldOver s r (judge t) := by
  rcases judge_eqc t with ⟨he, hl⟩ | ⟨hidle, hb⟩
  · exact heldOver_goesOn h (goesOn_of_eq he (by rw [hl]))
  · rcases h with ⟨hl, -⟩ | ⟨hst, -⟩
    · rw [hl] at hb
      exact .inr hb
    · exact absurd hidle hst

theorem goesOn_setRound {t : State} {x y : Round} (hx : t.eqc.round = some x) (hnum : y.number = x.number)
    (hout : y.outcome = x.outcome) (hp : x.pause = none → y.pause = none) : goesOn t (setRound y t) :=
  ⟨rfl, id, fun z hz => ⟨y, rfl, by rw [← Option.some.inj (hx.symm.trans hz)]; exact ⟨hnum, hout, hp⟩⟩⟩

theorem goesOn_setState {t u : State} {x : EqcState} (hx : x ≠ .idle) (h : goesOn t u) :
    goesOn t (setEqcState x u) :=
  goesOn_trans h ⟨rfl, fun _ => hx, fun z hz => ⟨z, hz, rfl, rfl, id⟩⟩

theorem goesOn_modRound (f : Round → Round) (t : State)
    (hf : ∀ x, (f x).number = x.number ∧ (f x).outcome = x.outcome ∧ (x.pause = none → (f x).pause = none)) :
    goesOn t (modRound f t) :=
  ⟨rfl, id, fun x hx => ⟨f x, by simp [modRound, hx], hf x⟩⟩

theorem goesOn_placePauseStandby (t : State) : goesOn t (placePauseStandby t) := by
  have cleared : goesOn t (modRound (fun r => { r with pauseOwed := false, acct := { r.acct with held := none } }) t) :=
    goesOn_modRound _ t fun _ => ⟨rfl, rfl, id⟩
  exact goesOn_trans cleared (goesOn_of_eq rfl rfl)

theorem goesOn_takePause (t : State) : goesOn t (takePause t) := by
  have stopped : goesOn t (stopTimer t) := goesOn_modRound _ t fun _ => ⟨rfl, rfl, id⟩
  unfold takePause
  dsimp only
  split
  · exact stopped
  · exact goesOn_trans stopped (goesOn_modRound _ _ fun _ => ⟨rfl, rfl, id⟩)
  · split
    · exact stopped
    · exact goesOn_trans stopped (goesOn_placePauseStandby _)

theorem goesOn_addPause (c : PauseCause) (t : State) : goesOn t (addPause c t) := by
  unfold addPause
  split
  · exact goesOn_refl t
  · rename_i r hr
    have put : goesOn t (setRound { r with pauses := r.pauses.put c true } t) :=
      goesOn_setRound (Basic.openRound_eq_some hr).1 rfl rfl id
    dsimp only
    repeat' split
    all_goals first
      | exact put
      | exact goesOn_trans put (goesOn_takePause _)

theorem goesOn_removePause (c : PauseCause) (t : State) : goesOn t (removePause c t) := by
  have resumed : ∀ b : Bool, (if b then EqcState.hold else EqcState.raise) ≠ .idle := by decide
  unfold removePause
  split
  · exact goesOn_refl t
  · rename_i r hr
    refine goesOn_trans (goesOn_setRound (y := { r with pauses := r.pauses.put c false })
      (Basic.openRound_eq_some hr).1 rfl rfl id) ?_
    unfold resumeIfClear
    split
    · rename_i x hst hx
      split
      · unfold resumeRound
        dsimp only
        split
        · exact goesOn_setRound (Basic.openRound_eq_some hx).1 rfl rfl id
        · exact goesOn_setState (resumed _) (goesOn_setRound (Basic.openRound_eq_some hx).1 rfl rfl fun _ => rfl)
      · exact goesOn_refl _
    · exact goesOn_refl _

theorem goesOn_startSafe (t : State) : goesOn t (startSafe t) := by
  have sent (x : SafeStep) (u : State) : (sendStep x u).eqc = u.eqc := by simp
  have next (u : State) : goesOn u (nextSafe u) := by
    unfold nextSafe finishSafe
    repeat' split
    · exact goesOn_of_eq (by simp) (by simp)
    · exact goesOn_of_eq (by simp) (by simp)
    · exact goesOn_trans (goesOn_of_eq (by simp) (by simp)) (goesOn_removePause _ _)
    · exact goesOn_refl u
  unfold startSafe
  split
  · exact goesOn_trans (goesOn_of_eq (by simp) (by simp)) (next _)
  · exact goesOn_refl t

theorem goesOn_endRelease (t : State) : goesOn t (endRelease t) := by
  have set : goesOn t (setRelease (.safeState false none) t) := goesOn_of_eq rfl rfl
  unfold endRelease
  dsimp only
  split
  · exact goesOn_trans set (goesOn_startSafe _)
  · exact set

/-! ### The site tick -/

theorem heldOver_takeSettleEnd {s t : State} {r : Round} (i : StringNo) (h : heldOver s r t) :
    heldOver s r (takeSettleEnd i t) := by
  unfold takeSettleEnd
  split
  · exact heldOver_judge (heldOver_goesOn h (goesOn_of_eq rfl rfl))
  · exact h

theorem heldOver_takeWindowExpiry {s t : State} {r : Round} (h : heldOver s r t) :
    heldOver s r (takeWindowExpiry t) := by
  unfold takeWindowExpiry closeWindowNow
  repeat' split
  · exact heldOver_judge (heldOver_goesOn h (goesOn_trans (goesOn_of_eq rfl rfl) (goesOn_addPause _ _)))
  · exact h
  · exact h

theorem heldOver_takeStale {s t : State} {r : Round} (h : heldOver s r t) : heldOver s r (takeStale t) := by
  unfold takeStale staleArises
  dsimp only
  split
  · have raised (u : State) : goesOn u (raise .plantStale u) := goesOn_of_eq (by simp) (by simp)
    refine heldOver_judge (heldOver_goesOn h (goesOn_trans ?_ (raised _)))
    split
    · exact goesOn_of_eq rfl rfl
    · exact goesOn_trans (goesOn_of_eq rfl rfl) (goesOn_addPause _ _)
  · exact h

theorem heldOver_takeReleaseLimit {s t : State} {r : Round} (h : heldOver s r t) :
    heldOver s r (takeReleaseLimit t) := by
  unfold takeReleaseLimit
  split
  · exact heldOver_judge (heldOver_goesOn h (goesOn_endRelease t))
  · exact h

theorem heldOver_traverse {s t : State} {r : Round} (h : heldOver s r t) : heldOver s r (traverse t) := by
  refine foldl_keeps (P := heldOver s r) _ (fun u i hu => ?_) _ t h
  unfold judgeEntry
  dsimp only
  split
  · exact heldOver_judge (heldOver_goesOn hu (goesOn_of_eq (by simp) (post_roundNumber _ _)))
  · exact hu

theorem heldOver_takeScheduleMatch {s t : State} {r : Round} (h : heldOver s r t) :
    heldOver s r (takeScheduleMatch t) := by
  unfold takeScheduleMatch
  split
  · exact heldOver_traverse (heldOver_goesOn h (goesOn_of_eq rfl rfl))
  · exact h

theorem goesOn_claimEqualise (j : EqJob) {t u : State} (h : goesOn t u) : goesOn t (claimEqualise j u) :=
  goesOn_trans h (goesOn_of_eq rfl rfl)

theorem goesOn_takePeriodExpiry (t : State) : goesOn t (takePeriodExpiry t) := by
  have expires (x : Round) (hx : t.eqc.round = some x) : goesOn t (periodExpires x t) := by
    unfold periodExpires
    dsimp only
    repeat' split
    · exact goesOn_claimEqualise _ (goesOn_setRound hx rfl rfl id)
    · exact goesOn_claimEqualise _ (goesOn_setRound hx rfl rfl id)
    · exact goesOn_setRound hx rfl rfl id
    · exact goesOn_setRound hx rfl rfl id
  unfold takePeriodExpiry
  split
  all_goals try (rename_i hx; have hx := (Basic.openRound_eq_some hx).1; split)
  all_goals first
    | exact goesOn_refl t
    | exact expires _ hx

theorem goesOn_takeStandbyRefresh (t : State) : goesOn t (takeStandbyRefresh t) := by
  unfold takeStandbyRefresh
  repeat' split
  · exact goesOn_claimEqualise _ (goesOn_modRound _ t fun _ => ⟨rfl, rfl, id⟩)
  · exact goesOn_refl t
  · exact goesOn_refl t

/-- The end of a pause decides nothing for a decided round, and a round just begun is not paused (R73). -/
theorem heldOver_takePauseExpired {s t : State} {r : Round} (hr : r.outcome.isSome) (h : heldOver s r t) :
    heldOver s r (takePauseExpired t) := by
  unfold takePauseExpired
  rcases h with ⟨hl, x, hx, hout, hnum⟩ | hb
  · have closed : openRound t = none := by
      cases hop : openRound t with
      | none => rfl
      | some y =>
        obtain ⟨hy, hnone, -⟩ := Basic.openRound_eq_some hop
        rw [Option.some.inj (hx.symm.trans hy), hnone] at hout
        rw [← hout] at hr
        exact absurd hr (by simp)
    have unchanged (o : EqOutcome) : decideEqualise o t = t := by simp [decideEqualise, closed]
    simp only [unchanged]
    repeat' split
    all_goals exact .inl ⟨hl, x, hx, hout, hnum⟩
  · have hbegun := hb
    obtain ⟨-, -, x, hx, -, hp, -⟩ := hb
    have : t.eqc.round.bind Round.pause = none := by simp [hx, hp]
    rw [this]
    exact .inr hbegun

theorem goesOn_advance (t : State) : goesOn t (advance t) :=
  ⟨rfl, id, fun x hx => ⟨x.tick t.settings.resumeLimit, by simp [advance, Eqc.tick, hx], rfl, rfl, fun hp => by
    simp [Round.tick, hp]⟩⟩

theorem heldOver_takeTick {s : State} {r : Round} (hs : s.eqc.round = some r) (hr : r.outcome.isSome) :
    heldOver s r (takeTick s) := by
  have start : heldOver s r s := .inl ⟨rfl, r, hs, rfl, rfl⟩
  have counted (t : State) : goesOn t (takeMinute (takeHour t)) := goesOn_of_eq (by simp) (by simp)
  have swept (t : State) : goesOn t (takeSweepMatch t) := goesOn_of_eq (by simp) (by simp)
  have polled (t : State) : goesOn t (takeDosePoll t) := goesOn_of_eq (by simp) (by simp)
  have dosed (t : State) : goesOn t (takeMaximumDose t) :=
    goesOn_of_eq (by simp) (roundStands_basic.takeMaximumDose (roundStands_basic.refl _)).1
  have reservoir (t : State) : goesOn t (takeReservoirPoll t) := goesOn_of_eq (by simp) (by simp)
  have demanded (t : State) : goesOn t (judgeDemand t) := goesOn_of_eq (by simp) (by simp)
  have settled := foldl_keeps (P := heldOver s r) (fun acc i => takeSettleEnd i acc)
    (fun t i ht => heldOver_takeSettleEnd i ht) (List.finRange 8) _ (heldOver_goesOn start (counted s))
  have matched := heldOver_takeScheduleMatch (heldOver_goesOn (heldOver_takeWindowExpiry settled) (swept _))
  have expired := heldOver_takePauseExpired hr
    (heldOver_goesOn matched (goesOn_trans (goesOn_takePeriodExpiry _) (goesOn_takeStandbyRefresh _)))
  have watered := heldOver_goesOn expired (goesOn_trans (polled _) (goesOn_trans (dosed _) (reservoir _)))
  have waited := foldl_keeps (P := heldOver s r) (fun acc i => takeWaitEnd i acc)
    (fun t i ht => heldOver_goesOn ht (goesOn_of_eq (by simp) (by simp))) (List.finRange 8) _
    (heldOver_takeReleaseLimit (heldOver_takeStale watered))
  exact heldOver_goesOn waited (goesOn_trans (demanded _) (goesOn_advance _))

theorem roundFate_of_heldOver {s t : State} (h : ∀ r : Round, s.eqc.round = some r → r.outcome.isSome → heldOver s r t) :
    roundFate s t := by
  intro r hs hr
  rcases h r hs hr with ⟨-, x, hx, hout, hnum⟩ | hb
  · exact .inr (.inl ⟨x, hx, hout, hnum⟩)
  · exact roundFate_of_begun hb (by bv_omega) r hs hr

end Sys2Proof.Laws
end

section
/-! SUPPORT. No step changes a decided outcome. -/

namespace Sys2Proof.Laws

open Sys2Proof.Machine

/-! ### Where a transaction ends -/

/-- The end of a transaction but the answer of a reservoir check is basic updates, then the two judgements. -/
theorem endTransaction_basic {R : State → State → Prop} (K : Basic R) (t : Transaction) (o : TxOutcome) (s : State)
    (hw : t.claimant ≠ .water .check ∨ ∀ data, o ≠ .answer data) :
    ∃ v, R s v ∧ endTransaction t o s = judgeDemand (judge v) := by
  have hand (u : State) (hu : R s u) : R s (handOutcome t.claimant o u) := by
    by_cases hc : t.claimant = .water .check
    · have ho := hw.resolve_left (not_not.mpr hc)
      have : handOutcome t.claimant o u = modWac (fun w => { w with check := none }) u := by
        rw [hc]
        cases o with
        | answer data => exact absurd rfl (ho data)
        | fault c => rfl
        | holdExhausted => rfl
        | noAnswer => rfl
        | lineFault => rfl
      rw [this]
      exact K.modWac (fun _ => rfl) hu
    · exact K.handOutcome _ _ hc hu
  have counted := K.countOutcome t.member o (K.refl s)
  have marked : R s { countOutcome t.member o s with free := (countOutcome t.member o s).free + 1 } :=
    K.quietly counted (by simp [quiet])
  refine ⟨_, ?_, rfl⟩
  refine K.afterEnd _ _ ?_
  unfold handBoth
  dsimp only
  split_ifs
  · exact hand _ (K.setInFlight _ (K.handAbsence _ marked))
  · exact K.handAbsence _ (hand _ (K.setInFlight _ marked))
  · exact hand _ (K.setInFlight _ counted)

theorem marksAbsent_answer (s : State) (m : MemberNo) (data : List Octet) :
    marksAbsent s m (.answer data) = false := by
  simp [marksAbsent, failuresAfter, Config.failuresForAbsence]

theorem judgeReservoir_waterDose (n : Nat) (s : State) : (judgeReservoir n s).wac.dose = s.wac.dose := by
  simp only [judgeReservoir, modWac_wac]
  split <;> rfl

/-- A reservoir check that answered begins a dose with the number just drawn, or leaves the rounds as they are. -/
theorem checkEnded_dose (data : List Octet) (s : State) :
    ((checkEnded (.answer data) s).wac.dose = s.wac.dose ∧ (checkEnded (.answer data) s).log = s.log)
      ∨ ((checkEnded (.answer data) s).log.roundNumber = s.log.roundNumber + 1
        ∧ ∃ x, (checkEnded (.answer data) s).wac.dose = some x ∧ x.outcome = none
          ∧ x.number = s.log.roundNumber + 1) := by
  have read : (judgeReservoir (reservoirOf data) (modWac (fun w => { w with check := none }) s)).wac.dose = s.wac.dose := by
    rw [judgeReservoir_waterDose]
    rfl
  have low (u : State) : (setReservoirLow u).wac.dose = u.wac.dose := by
    simp only [setReservoirLow, modWac_wac]
    split <;> rfl
  simp only [checkEnded]
  repeat' split
  · exact .inl ⟨(low _).trans read, by simp⟩
  · rename_i he
    obtain ⟨-, -, -, -, -, hd, hh, -⟩ := (eligibleWater_iff _ _).mp he
    rw [beginDose_eq _ _ _ hd hh]
    exact .inr ⟨by simp, _, rfl, rfl, by simp [freshDose]⟩
  · exact .inl ⟨read, by simp⟩
  · exact .inl ⟨read, by simp⟩
  · exact .inl ⟨read, by simp⟩

theorem judge_dose (s : State) : (judge s).wac.dose = s.wac.dose := by
  have check (u : State) : (judgeWac u).wac.dose = u.wac.dose := by
    unfold judgeWac
    split
    · simp [beginCheck]
    · rfl
  have window (u : State) : (judgeWindowNeeded u).wac = u.wac := by
    unfold judgeWindowNeeded
    dsimp only
    split <;> simp
  rw [judge, window]
  unfold judgeChannels
  dsimp only
  split_ifs <;> simp [check]

theorem judge_roundNumber (s : State) :
    (judge s).log.roundNumber = s.log.roundNumber ∨ (judge s).log.roundNumber = s.log.roundNumber + 1 := by
  rcases judge_eqc s with ⟨-, hl⟩ | ⟨-, -, hl, -⟩
  · exact .inl (by rw [hl])
  · exact .inr hl

theorem endTransaction_roundFate (t : Transaction) (o : TxOutcome) (s : State) :
    roundFate s (endTransaction t o s) := by
  by_cases hw : t.claimant ≠ .water .check ∨ ∀ data, o ≠ .answer data
  · obtain ⟨v, hv, he⟩ := endTransaction_basic roundStands_basic t o s hw
    rw [he]
    exact roundFate_quietly (roundFate_judge (roundFate_of_stands hv) (.inl hv.1)) (by simp) (by simp)
  · push Not at hw
    obtain ⟨hc, data, rfl⟩ := hw
    simp only [endTransaction, marksAbsent_answer, hc, handOutcome, Bool.false_eq_true, if_false]
    have started := roundStands_basic.afterEnd t (.answer data) (roundStands_basic.refl
      (checkEnded (.answer data) (setInFlight none (countOutcome t.member (.answer data) s))))
    have held : roundFate s (afterEnd t (.answer data)
        (checkEnded (.answer data) (setInFlight none (countOutcome t.member (.answer data) s)))) := by
      intro r hr ho
      rcases started.2.2 r (by simpa using hr) with hn | ⟨x, hx, hnum, hout⟩
      · exact .inl hn
      · exact .inr (.inl ⟨x, hx, hout ho, hnum⟩)
    refine roundFate_quietly (roundFate_judge held ?_) (by simp) (by simp)
    rcases checkEnded_dose data (setInFlight none (countOutcome t.member (.answer data) s)) with ⟨-, hl⟩ | ⟨hl, -⟩
    · exact .inl (by simp [hl])
    · exact .inr (by simp [hl])

/-! ### What becomes of a decided dose -/

/-- The fate of a decided dose, as the statement has it (R61, R110). -/
def doseFate (s t : State) : Prop :=
  ∀ d : Dose, s.wac.dose = some d → d.outcome.isSome →
    t.wac.dose = none
      ∨ (∃ x : Dose, t.wac.dose = some x ∧ x.outcome = d.outcome ∧ x.number = d.number)
      ∨ (∃ x : Dose, t.wac.dose = some x ∧ x.outcome = none ∧ x.number ≠ s.log.roundNumber
        ∧ (x.number - s.log.roundNumber).toNat ≤ (t.log.roundNumber - s.log.roundNumber).toNat)

theorem doseFate_of_stands {s t : State} (h : doseStands s t) : doseFate s t := by
  intro d hd ho
  rcases h.2 d hd with hn | ⟨x, hx, hnum, hout⟩
  · exact .inl hn
  · exact .inr (.inl ⟨x, hx, hout ho, hnum⟩)

theorem endTransaction_doseFate (t : Transaction) (o : TxOutcome) (s : State) :
    doseFate s (endTransaction t o s) := by
  by_cases hw : t.claimant ≠ .water .check ∨ ∀ data, o ≠ .answer data
  · obtain ⟨v, hv, he⟩ := endTransaction_basic doseStands_judged.toBasic t o s hw
    rw [he]
    exact doseFate_of_stands (doseStands_judged.judgeDemand (doseStands_judged.judge hv))
  · push Not at hw
    obtain ⟨hc, data, rfl⟩ := hw
    simp only [endTransaction, marksAbsent_answer, hc, handOutcome, Bool.false_eq_true, if_false]
    generalize hu : checkEnded (.answer data) (setInFlight none (countOutcome t.member (.answer data) s)) = u
    have hdose : (judgeDemand (judge (afterEnd t (.answer data) u))).wac.dose = u.wac.dose := by
      have demanded (v : State) : (judgeDemand v).wac = v.wac := by simp
      rw [demanded, judge_dose]
      simp
    rcases checkEnded_dose data (setInFlight none (countOutcome t.member (.answer data) s)) with ⟨he, -⟩ | ⟨hl, x, hx, hout, hnum⟩
    · rw [hu] at he
      exact doseFate_of_stands (doseStands_of_eq (by simpa [he] using hdose))
    · rw [hu] at hl hx
      intro d _ _
      refine .inr (.inr ⟨x, by rw [hdose, hx], hout, ?_, ?_⟩)
      · rw [hnum]
        simp
      · have : (judgeDemand (judge (afterEnd t (.answer data) u))).log.roundNumber
            = (judge (afterEnd t (.answer data) u)).log.roundNumber := by simp
        rw [this, hnum]
        have hl' : (afterEnd t (.answer data) u).log.roundNumber = s.log.roundNumber + 1 := by simpa using hl
        rcases judge_roundNumber (afterEnd t (.answer data) u) with hj | hj
        · rw [hj, hl']
          simp
        · rw [hj, hl']
          simp
          bv_omega

/-! ### The statement -/

theorem reset_noRound (c : Cause) (s : State) (h : s.loop = Loop.reset) :
    (afterLoad c s).eqc = s.eqc ∧ (afterLoad c s).wac = s.wac := by
  rw [afterLoad_eq c s h]
  dsimp only
  split <;> simp [listInstalled]

theorem exec_fates {s t : State} (c : Instr) (h : exec c s = .next t) : roundFate s t ∧ doseFate s t := by
  have gone (c : Cause) (u : State) (hl : u.loop = Loop.reset) (he : u.eqc = Eqc.reset) (hw : u.wac = Wac.reset) :
      roundFate s (afterLoad c u) ∧ doseFate s (afterLoad c u) := by
    obtain ⟨he', hw'⟩ := reset_noRound c u hl
    exact ⟨fun _ _ _ => .inl (by rw [he', he]; rfl), fun _ _ _ => .inl (by rw [hw', hw]; rfl)⟩
  obtain ⟨v, hv, hb⟩ := roundStands_basic.exec c s
  obtain ⟨w, hw, hd⟩ := doseStands_judged.exec c s
  obtain rfl : v = t := by rw [hv] at h; simpa using h
  obtain rfl : w = v := by rw [hw] at h; simpa using h
  have reset (x : Straps) (hx : w = takePowerOn x s ∨ w = takePinReset x s) : roundFate s w ∧ doseFate s w := by
    rcases hx with rfl | rfl
    · exact gone _ _ rfl rfl rfl
    · exact gone _ _ rfl rfl rfl
  refine ⟨?_, ?_⟩
  · rcases hb with hb | ⟨x, hx⟩ | rfl | rfl | ⟨x, o, rfl⟩
    · exact roundFate_thenJudged hb
    · exact (reset x hx).1
    · exact roundFate_of_heldOver fun r hr ho => heldOver_takeTick hr ho
    · exact roundFate_of_heldOver fun r hr ho => heldOver_takeScheduleMatch (.inl ⟨rfl, r, hr, rfl, rfl⟩)
    · exact endTransaction_roundFate x o s
  · rcases hd with hd | ⟨x, hx⟩ | ⟨x, o, rfl⟩
    · exact doseFate_of_stands hd
    · exact (reset x hx).2
    · exact endTransaction_doseFate x o s

/-- Settles O60: a command but a reset, the site tick, the traversal and the end of a transaction is basic updates, which
leave a decided outcome, and one judgement of dispatch, which begins a round with a number just drawn. -/
theorem decidedOutcomeStands : Obligations.DecidedOutcomeStands := by
  intro s t h
  unfold step at h
  split at h
  · cases h
    exact ⟨fun r hr _ => .inr (.inl ⟨r, hr, rfl, rfl⟩), fun d hd _ => .inr (.inl ⟨d, hd, rfl, rfl⟩)⟩
  · rename_i c rest _
    have fates := exec_fates c h
    exact ⟨fates.1, fates.2⟩

end Sys2Proof.Laws
end

section
/-! SUPPORT. The queue of commands, and what the resets leave. -/

namespace Sys2Proof.Laws

open Sys2Proof.Machine

/-! ### The queue of commands -/

/-- The commands that wait are as they were. -/
def sameCommands (s t : State) : Prop := t.pending = s.pending

theorem sameCommands_whole : Whole sameCommands where
  refl _ := rfl
  trans h g := g.trans h
  ofQuiet := fun ⟨_, _, _, _, _, _, _, _, h⟩ => h
  records _ _ _ := rfl
  barString i st s _ := by simp [sameCommands]
  filterQueue _ _ := rfl
  mapQueue _ _ _ := rfl
  posted e s := by simp [sameCommands]
  changeRound _ _ _ _ _ := rfl
  noRound _ := rfl
  changeDose _ _ _ _ _ := rfl
  noDose _ := rfl
  changeFifo _ _ _ := rfl
  logged r s := by simp [sameCommands]
  logFlags _ _ _ := rfl
  written _ _ _ _ _ := rfl
  changeStore _ _ _ := rfl
  roundBegins e rn s _ _ := by simp [sameCommands]
  doseBegins e n s _ := by simp [sameCommands]
  poweredOn x s := by simp [sameCommands]
  pinWasReset x s := by simp [sameCommands]

/-- Settles O1: every command is basic updates, the beginning of a round or dose, or a reset, and none of them touches the
commands that wait. -/
theorem stepTakesTheFrontCommand : Obligations.StepTakesTheFrontCommand := by
  refine ⟨fun s => ⟨fun h => ?_, fun c rest h => ?_⟩, fun c s => sameCommands_whole.exec c s⟩
  · rw [step, h]
  · rw [step, h]
    rfl

/-! ### Resets (R20, R21, R174, R178) -/

theorem blocksReset_loop (x : Straps) (s : State) : (blocksReset x s).loop = Loop.reset := rfl

/-- The notices of a load: a failed check, and what the RESTART record sets (R173, R177). -/
theorem afterLoad_raises (c : Cause) (b : State) (h : b.loop = Loop.reset) :
    afterLoad c b =
      let u := listInstalled (raiseAll ((if b.store.defaulted then Notice.settingsStored.mask else 0) ||| noticesOfWrite b.log)
        { b with log := logAfter (LogRecord.restart 0 c b.clock) b.log })
      { u with loop := loopAfterReset u } := by
  rw [afterLoad_eq c b h]
  split
  · rw [logWrite_eq, raise_eq, ← raiseAll_raiseAll]
    rfl
  · rw [logWrite_eq, ← raiseAll_raiseAll, raiseAll_zero]

/-- What a load leaves in the blocks and the ports, whatever the strings, the log and the clock. -/
theorem afterLoad_leaves (x : Straps) (c : Cause) (s : State) (ss : Vector StringRecord 8) (l : RoundLog)
    (k : Option Quad) :
    let t := afterLoad c { blocksReset x s with strings := ss, log := l, clock := k }
    leftByReset x (noticesOfWrite l) s t ∧ t.clock = k ∧ t.strings = ss
      ∧ t.log = logAfter (LogRecord.restart 0 c k) l := by
  dsimp only
  rw [afterLoad_raises _ _ rfl]
  refine ⟨⟨rfl, rfl, rfl, rfl, rfl, rfl, rfl, rfl, ?_, fun p => ?_, rfl, rfl, rfl, rfl⟩, rfl, rfl, rfl⟩
  · simp [listInstalled, raiseAll, blocksReset, DemandUnit.reset]
    rfl
  · have unit (m : NoticeSet) (r : LineRate) :
        (PortUnit.reset r).addPending m = { rate := r, rx := .hunt, enabled := 0, pending := m } := by
      simp [PortUnit.reset, PortUnit.addPending]
    have masked : (if (!s.store.checkHolds) = true then Notice.settingsStored.mask else 0)
        = if s.store.checkHolds then 0 else Notice.settingsStored.mask := by
      cases s.store.checkHolds <;> rfl
    rw [← masked]
    cases p
    · exact unit _ _
    · exact unit _ _
    · exact unit _ _

/-- Settles O2: the load leaves the blocks, and power-on has cleared strings, log and clock. -/
theorem powerOnLeaves : Obligations.PowerOnLeaves := by
  intro x s
  obtain ⟨hleft, hclock, hstrings, hlog⟩ :=
    afterLoad_leaves x .powerOn s (Vector.replicate 8 StringRecord.powerOn) RoundLog.cleared none
  refine ⟨_, rfl, ?_, hclock, hstrings, ?_⟩
  · have : noticesOfWrite RoundLog.cleared = 0 := by decide
    rwa [this] at hleft
  · exact hlog.trans rfl

theorem pinReset_record (r : StringRecord) :
    r.pinReset =
      { r with
        state := match r.state.barCause, r.state.pendingBar with
          | some c, _ => .barred c
          | none, some c => .barred c
          | none, none => .float
        voltage := 0, current := 0, temperature := 0, age := 65535, levelLow := false, cells := none } := by
  cases hs : r.state with
  | float => simp [StringRecord.pinReset, hs, StringState.barCause, StringState.pendingBar]
  | settle n => simp [StringRecord.pinReset, hs, StringState.barCause, StringState.pendingBar]
  | barred c => simp [StringRecord.pinReset, hs, StringState.barCause]
  | equalise b => cases b <;> simp [StringRecord.pinReset, hs, StringState.barCause, StringState.pendingBar]
  | water b => cases b <;> simp [StringRecord.pinReset, hs, StringState.barCause, StringState.pendingBar]

/-- Settles O3: the load leaves the blocks, each record is reset by its own state, log and clock are kept. -/
theorem pinResetLeaves : Obligations.PinResetLeaves := by
  intro x s
  obtain ⟨hleft, hclock, hstrings, hlog⟩ :=
    afterLoad_leaves x .pinRestart s (s.strings.map StringRecord.pinReset) s.log s.clock
  refine ⟨_, rfl, hleft, hclock, hlog, fun i => ?_⟩
  have : recordOf (takePinReset x s) i = (recordOf s i).pinReset := by
    change (takePinReset x s).strings[i] = _
    rw [show (takePinReset x s).strings = s.strings.map StringRecord.pinReset from hstrings]
    simp [recordOf]
  exact this.trans (pinReset_record _)

/-- Settles O4: RESTART has no parameters and answers DONE, and REPLY_SENT looks at the reply owed. -/
theorem replySentAndRestart : Obligations.ReplySentAndRestart := by
  refine ⟨fun tag s h => ?_, fun p x s r h => ?_, fun p x s h => ?_⟩
  · exact congrArg Host.Outcome.next (arrive_hears .service tag .restart s h (by decide))
  · change Host.Outcome.next (replySent p x s) = _
    simp only [replySent, h, restartOwed, Bool.and_eq_true, decide_eq_true_eq]
    split <;> rfl
  · change Host.Outcome.next (replySent p x s) = _
    unfold replySent
    split
    · rename_i r hr
      exact absurd hr (h r)
    · rfl

/-- Settles O5: the state right after power-on is one state, and each promise evaluates there. -/
theorem invariantsHoldAtReset : Obligations.InvariantsHoldAtReset := by
  unfold Obligations.InvariantsHoldAtReset
  decide +kernel

end Sys2Proof.Laws
end

section
/-! SUPPORT. What the events that a tick still owes leave of its counters. -/

namespace Sys2Proof.Laws

open Sys2Proof.Machine

/-! ### What the events a tick still owes leave of its counters -/

/-- The temperature ages are as they were (R3). -/
def agesStand (s t : State) : Prop := ∀ i, (recordOf t i).age = (recordOf s i).age

theorem agesStand_of_strings {s t : State} (h : t.strings = s.strings) : agesStand s t := fun i => by
  rw [recordOf, recordOf, h]

theorem agesStand_trans {s t u : State} (h : agesStand s t) (g : agesStand t u) : agesStand s u :=
  fun i => (g i).trans (h i)

theorem agesStand_modString (i : StringNo) (f : StringRecord → StringRecord) (s : State) (hf : ∀ r, (f r).age = r.age) :
    agesStand s (modString i f s) := by
  intro j
  rw [recordOf_modString]
  split
  · rename_i hij
    rw [hf, hij]
  · rfl

theorem agesStand_releaseString (i : StringNo) (m : Option BarCause) (n : Option Nat) (s : State) :
    agesStand s (releaseString i m n s) := by
  have set (x : StringState) : agesStand s (setStringState i x s) := agesStand_modString i _ s fun _ => rfl
  have removed (t : State) : agesStand t (removeBarred i t) := agesStand_of_strings (by simp)
  unfold releaseString
  dsimp only
  repeat' split
  · exact agesStand_trans (set _) (removed _)
  · exact set _
  · exact agesStand_trans (set _) (removed _)
  · exact set _
  · exact fun _ => rfl

theorem agesStand_endRound (a b : Bool) (s : State) : agesStand s (endRound a b s) := by
  unfold endRound
  split
  · rename_i r o _
    have took : agesStand s (takeEqualiseOutcome r.string o s) :=
      agesStand_modString _ _ s fun _ => by split <;> rfl
    have released := agesStand_trans took (agesStand_releaseString r.string (if a then some .detachFailed else none)
      (if o.completes then some r.recipe.settleTime else none) _)
    refine agesStand_trans released (agesStand_of_strings ?_)
    unfold handOnRound
    dsimp only
    split <;> simp
  · exact fun _ => rfl

theorem agesStand_endDose (x : Leave) (b : Bool) (s : State) : agesStand s (endDose x b s) := by
  unfold endDose
  split
  · rename_i d o _
    have took : agesStand s (takeWaterOutcome d.string o d.delivered s) :=
      agesStand_modString _ _ s fun _ => by split <;> rfl
    unfold handOnDose
    cases x
    · refine agesStand_trans (agesStand_trans took (agesStand_releaseString d.string none none _)) (agesStand_of_strings ?_)
      dsimp only
      split <;> simp
    · refine agesStand_trans (agesStand_trans took (agesStand_releaseString d.string (some .closeFailed) none _)) (agesStand_of_strings ?_)
      dsimp only
      split <;> simp
    · refine agesStand_trans took (agesStand_of_strings ?_)
      dsimp only
      split <;> simp
  · exact fun _ => rfl

theorem agesStand_decideEqualise (o : EqOutcome) (s : State) : agesStand s (decideEqualise o s) := by
  unfold decideEqualise
  split
  · unfold stopDriving
    repeat' split
    all_goals first
      | exact agesStand_of_strings (by simp)
      | exact agesStand_trans (agesStand_of_strings (by simp)) (agesStand_endRound _ _ _)
  · exact fun _ => rfl

theorem agesStand_decideWater (o : WaterOutcome) (s : State) : agesStand s (decideWater o s) := by
  unfold decideWater
  split
  · unfold stopDosing endSequence closeStep
    dsimp only
    repeat' split
    all_goals first
      | exact agesStand_of_strings (by simp)
      | exact agesStand_trans (agesStand_of_strings (by simp)) (agesStand_endDose _ _ _)
  · exact fun _ => rfl

theorem agesStand_judge (s : State) : agesStand s (judge s) := by
  have claims (t : State) : agesStand t (judgeEqc t) := by
    unfold judgeEqc
    split
    · rename_i e he
      obtain ⟨-, -, -, -, hd, -⟩ := (eligibleEqualise_iff t e).mp (selectEqualise_eligible he)
      split
      · rw [beginRound_eq _ _ _ hd]
        exact agesStand_modString e.string (fun r => { r with state := .equalise none }) t fun _ => rfl
      · exact fun _ => rfl
    · exact fun _ => rfl
  have checks (t : State) : agesStand t (judgeWac t) := agesStand_of_strings (by simp)
  have window (t : State) : agesStand t (judgeWindowNeeded t) := agesStand_of_strings (by simp)
  have drew : agesStand s { s with free := s.free + 1 } := fun _ => rfl
  refine agesStand_trans ?_ (window _)
  unfold judgeChannels
  dsimp only
  split_ifs
  · exact agesStand_trans drew (agesStand_trans (checks _) (claims _))
  · exact agesStand_trans drew (agesStand_trans (claims _) (checks _))
  · exact agesStand_trans (claims _) (checks _)

/-- Dispatch leaves the age of the plant status record. -/
theorem judge_plantAge (s : State) : (judge s).plant.age = s.plant.age := by
  have window (t : State) : (judgeWindowNeeded t).plant.age = t.plant.age := by
    unfold judgeWindowNeeded
    dsimp only
    split <;> rfl
  rw [judge, window]
  simp

/-- The counters of the site tick, with settings and store. -/
def countersStand (s t : State) : Prop :=
  t.clock = s.clock ∧ t.time.ticks = s.time.ticks ∧ t.sweep.counter = s.sweep.counter
    ∧ t.schedule.counter = s.schedule.counter ∧ t.plant.age = s.plant.age ∧ agesStand s t
    ∧ t.settings = s.settings ∧ t.store = s.store

theorem countersStand_trans {s t u : State} (h : countersStand s t) (g : countersStand t u) : countersStand s u := by
  obtain ⟨h1, h2, h3, h4, h5, h6, h7, h8⟩ := h
  obtain ⟨g1, g2, g3, g4, g5, g6, g7, g8⟩ := g
  exact ⟨g1.trans h1, g2.trans h2, g3.trans h3, g4.trans h4, g5.trans h5, agesStand_trans h6 g6, g7.trans h7,
    g8.trans h8⟩

theorem countersStand_refl (s : State) : countersStand s s := ⟨rfl, rfl, rfl, rfl, rfl, fun _ => rfl, rfl, rfl⟩

theorem countersStand_judge (s : State) : countersStand s (judge s) :=
  ⟨by simp, by simp, by simp, by simp, judge_plantAge s, agesStand_judge s, by simp, by simp⟩

theorem countersStand_takeDue (s : State) : countersStand s (takeDue s) := by
  have hour (t : State) : countersStand t (takeHour t) := by
    refine ⟨by simp, ?_, by simp, by simp, by simp, fun i => ?_, by simp, by simp⟩
    · unfold takeHour
      split <;> rfl
    · unfold takeHour hourRecord
      split
      · simp only [recordOf, Fin.getElem_fin, Vector.getElem_ofFn]
        split <;> rfl
      · rfl
  have minute (t : State) : countersStand t (takeMinute t) := by
    refine ⟨by simp, ?_, by simp, by simp, ?_, fun i => ?_, by simp, by simp⟩
    · unfold takeMinute
      split <;> rfl
    · unfold takeMinute
      split
      · simp only [modPlant_plant]
        split <;> rfl
      · rfl
    · unfold takeMinute
      split
      · simp only [modPlant_strings, recordOf, Fin.getElem_fin, Vector.getElem_map, minuteRecord]
        split <;> rfl
      · rfl
  have settles (t : State) (i : StringNo) : countersStand t (takeSettleEnd i t) := by
    unfold takeSettleEnd
    split
    · refine countersStand_trans ?_ (countersStand_judge _)
      exact ⟨rfl, rfl, rfl, rfl, rfl, agesStand_modString _ _ _ fun _ => rfl, rfl, rfl⟩
    · exact countersStand_refl t
  have window (t : State) : countersStand t (takeWindowExpiry t) := by
    unfold takeWindowExpiry closeWindowNow
    repeat' split
    · refine countersStand_trans ?_ (countersStand_judge _)
      exact ⟨by simp, by simp, by simp, by simp, by simp, agesStand_of_strings (by simp), by simp, by simp⟩
    · exact countersStand_refl t
    · exact countersStand_refl t
  have swept (t : State) : countersStand t (takeSweepMatch t) := by
    refine ⟨by simp, by simp, ?_, by simp, by simp, agesStand_of_strings (by simp), by simp, by simp⟩
    have reached (l : List SweepItem) (u : State) : (reachItem l u).sweep.counter = u.sweep.counter := by
      unfold reachItem
      split <;> simp
    unfold takeSweepMatch sweepMatched lateMatch startSweep
    repeat' split
    all_goals simp [reached]
  have scheduled (t : State) : countersStand t (takeScheduleMatch t) := by
    unfold takeScheduleMatch
    split
    · refine countersStand_trans ⟨rfl, rfl, rfl, rfl, rfl, fun _ => rfl, rfl, rfl⟩
        (foldl_keeps (P := countersStand _) _ (fun u i hu => ?_) _ _ (countersStand_refl _))
      unfold judgeEntry
      dsimp only
      split
      · refine countersStand_trans hu (countersStand_trans ?_ (countersStand_judge _))
        exact ⟨by simp, by simp, by simp, by simp, by simp, agesStand_of_strings (by simp), by simp, by simp⟩
      · exact hu
    · exact countersStand_refl t
  have paused (t : State) : countersStand t (takePauseExpired t) := by
    refine ⟨by simp, by simp, by simp, by simp, by simp, ?_, by simp, by simp⟩
    unfold takePauseExpired
    repeat' split
    · exact agesStand_decideEqualise _ t
    · exact fun _ => rfl
    · exact fun _ => rfl
  have dosed (t : State) : countersStand t (takeMaximumDose t) := by
    refine ⟨by simp, by simp, by simp, by simp, by simp, ?_, by simp, by simp⟩
    unfold takeMaximumDose
    repeat' split
    · exact agesStand_decideWater _ t
    · exact fun _ => rfl
    · exact fun _ => rfl
  have staled (t : State) : countersStand t (takeStale t) := by
    unfold takeStale staleArises
    dsimp only
    split
    · refine countersStand_trans ?_ (countersStand_judge _)
      split
      all_goals exact ⟨by simp, by simp, by simp, by simp, by simp, agesStand_of_strings (by simp), by simp, by simp⟩
    · exact countersStand_refl t
  have released (t : State) : countersStand t (takeReleaseLimit t) := by
    unfold takeReleaseLimit endRelease
    dsimp only
    repeat' split
    all_goals first
      | exact countersStand_refl t
      | (refine countersStand_trans ?_ (countersStand_judge _)
         exact ⟨by simp, by simp, by simp, by simp, by simp, agesStand_of_strings (by simp), by simp, by simp⟩)
  have framed {t u : State} (h : u.clock = t.clock ∧ u.time = t.time ∧ u.sweep = t.sweep ∧ u.schedule = t.schedule
      ∧ u.plant = t.plant ∧ u.strings = t.strings ∧ u.settings = t.settings ∧ u.store = t.store) :
      countersStand t u := by
    obtain ⟨h1, h2, h3, h4, h5, h6, h7, h8⟩ := h
    exact ⟨h1, by rw [h2], by rw [h3], by rw [h4], by rw [h5], agesStand_of_strings h6, h7, h8⟩
  have started := countersStand_trans (hour s) (minute _)
  have settled := foldl_keeps (P := countersStand s) (fun acc i => takeSettleEnd i acc)
    (fun t i ht => countersStand_trans ht (settles t i)) (List.finRange 8) _ started
  have matched := countersStand_trans settled
    (countersStand_trans (window _) (countersStand_trans (swept _) (scheduled _)))
  have timed (t : State) : countersStand t (takeStandbyRefresh (takePeriodExpiry t)) := framed (by simp)
  have polled (t : State) : countersStand t (takeDosePoll t) := framed (by simp)
  have reservoir (t : State) : countersStand t (takeReservoirPoll t) := framed (by simp)
  have demanded (t : State) : countersStand t (judgeDemand t) := framed (by simp)
  have watered := countersStand_trans (countersStand_trans matched (countersStand_trans (timed _) (paused _)))
    (countersStand_trans (polled _) (countersStand_trans (dosed _) (reservoir _)))
  have waited := foldl_keeps (P := countersStand s) (fun acc i => takeWaitEnd i acc)
    (fun t i ht => countersStand_trans ht (framed (by simp))) (List.finRange 8) _
    (countersStand_trans watered (countersStand_trans (staled _) (released _)))
  exact countersStand_trans waited (demanded _)

/-- Settles O6: the events a tick still owes leave the counters, and the tick then advances them. -/
theorem siteTickCounts : Obligations.SiteTickCounts := by
  intro s
  refine ⟨takeTick s, rfl, ?_⟩
  obtain ⟨hclock, hticks, hsweep, hschedule, hage, hages, hsettings, hstore⟩ := countersStand_takeDue s
  rw [takeTick]
  generalize takeDue s = u at *
  refine ⟨?_, ?_, ?_, ?_, ?_, ?_, ?_, fun i => ?_, hsettings, hstore⟩
  · exact congrArg (Option.map (· + 1)) hclock
  · change Timebase.tick u.time = _
    simp [Timebase.tick, hticks, Config.ticksPerHour, Config.ticksPerMinute]
  · change countNext u.sweep.counter u.settings.sweepInterval = _
    rw [hsweep, hsettings]
    rfl
  · change countMatches u.sweep.counter u.settings.sweepInterval = _
    rw [hsweep, hsettings]
    rfl
  · change countNext u.schedule.counter u.settings.scheduleCompare = _
    rw [hschedule, hsettings]
    rfl
  · change countMatches u.schedule.counter u.settings.scheduleCompare = _
    rw [hschedule, hsettings]
    rfl
  · change satAdd 65535 u.plant.age 1 = _
    rw [hage]
    rfl
  · have : recordOf (advance u) i = ageRecord u.settings.installed[i] (recordOf u i) := by
      simp [advance, recordOf]
    change (recordOf (advance u) i).age = _
    rw [this, hsettings, ageRecord]
    change (if isInstalled s i = true then _ else _ : StringRecord).age = _
    split
    · rw [← hages i]
      rfl
    · exact hages i

end Sys2Proof.Laws
end

section
/-! SUPPORT. A tick at which nothing is due, the minute, the hour and the end of a settle. -/

namespace Sys2Proof.Laws

open Sys2Proof.Machine

/-! ### Events that are not due change nothing (assumption 1) -/

section
variable {s : State}

theorem takeHour_notDue (h : s.time.hourDue = false) : takeHour s = s := by simp [takeHour, h]

theorem takeMinute_notDue (h : s.time.minuteDue = false) : takeMinute s = s := by simp [takeMinute, h]

theorem takeSettleEnd_notDue {i : StringNo} (h : (recordOf s i).state ≠ .settle 0) : takeSettleEnd i s = s := if_neg h

theorem takeWindowExpiry_notDue (h : ¬ (s.plant.windowOpen ∧ s.plant.remaining = 0)) : takeWindowExpiry s = s :=
  if_neg h

theorem takeSweepMatch_notDue (h : s.sweep.matchDue = false) : takeSweepMatch s = s := by simp [takeSweepMatch, h]

theorem takeScheduleMatch_notDue (h : s.schedule.matchDue = false) : takeScheduleMatch s = s := by
  simp [takeScheduleMatch, h]

theorem takePeriodExpiry_notDue (h : ∀ r, s.eqc.round = some r → r.timer.ended = false) : takePeriodExpiry s = s := by
  unfold takePeriodExpiry
  split
  · rename_i r _ hr
    simp [h r (Basic.openRound_eq_some hr).1]
  · rename_i r _ hr
    simp [h r (Basic.openRound_eq_some hr).1]
  · rfl

theorem takeStandbyRefresh_notDue (h : ∀ r, s.eqc.round = some r → r.timer.ended = false) :
    takeStandbyRefresh s = s := by
  unfold takeStandbyRefresh
  split
  · rename_i r _ hr
    simp [h r (Basic.openRound_eq_some hr).1]
  · rfl

theorem takePauseExpired_notDue (h : ∀ r p, s.eqc.round = some r → r.pause = some p → p.expired = false) :
    takePauseExpired s = s := by
  unfold takePauseExpired
  split
  · rename_i p hp
    obtain ⟨r, hr, hrp⟩ := Option.bind_eq_some_iff.mp hp
    simp [h r p hr hrp]
  · rfl

theorem takeDosePoll_notDue (h : ∀ d t, s.wac.dose = some d → d.pollTimer = some t → t < Config.dosePollInterval) :
    takeDosePoll s = s := by
  unfold takeDosePoll
  split
  · rename_i d _ hd
    split
    · rename_i t ht
      exact if_neg (Nat.not_le.mpr (h d t hd ht))
    · rfl
  · rfl

theorem takeMaximumDose_notDue (h : ∀ d, s.wac.dose = some d → d.maxReached = false) : takeMaximumDose s = s := by
  unfold takeMaximumDose
  split
  · rename_i d hd
    simp [h d hd]
  · rfl

theorem takeReservoirPoll_notDue (h : ∀ t, s.wac.pollTimer = some t → t < Config.reservoirPollInterval) :
    takeReservoirPoll s = s := by
  unfold takeReservoirPoll
  split
  · rename_i t ht
    exact if_neg fun hc => Nat.not_le.mpr (h t ht) hc.1
  · rfl

theorem takeStale_notDue (h : s.plant.staleDue = false) : takeStale s = s := by simp [takeStale, h]

theorem takeReleaseLimit_notDue (h : s.loop.release ≠ .released true) : takeReleaseLimit s = s := by
  unfold takeReleaseLimit
  split
  · rename_i hr
    exact absurd hr h
  · rfl

theorem takeWaitEnd_notDue {i : StringNo} (h : s.demand.list[i] ≠ some 0) : takeWaitEnd i s = s := if_neg h

/-- With no poll to claim and no wait run down, the Demand Unit's judgement changes nothing. -/
theorem judgeDemand_notDue (hp : ¬ (s.demand.poll = .idle ∧ pollWanted s)) (hl : ∀ i : StringNo, s.demand.list[i] ≠ some 0) :
    judgeDemand s = s := by
  have hc : configDue s = none := by
    simpa [configDue] using hl
  unfold judgeDemand
  split
  · rfl
  · split
    · rfl
    · rfl
    · rw [if_neg hp, hc]
      split
      · simp_all
      · rfl

theorem takeDue_notDue (h : nothingDue s) : takeDue s = s := by
  simp only [nothingDue, Bool.and_eq_true, Bool.not_eq_true', List.all_eq_true, List.mem_finRange, true_implies,
    decide_eq_true_eq] at h
  obtain ⟨⟨⟨⟨⟨⟨⟨⟨⟨⟨⟨⟨hminute, hhour⟩, hsettle⟩, hwindow⟩, hsweep⟩, hschedule⟩, hstale⟩, hround⟩, hdose⟩, hpoll⟩, hrelease⟩,
    hlist⟩, hdemand⟩ := h
  have htimer : ∀ r, s.eqc.round = some r → r.timer.ended = false := by
    intro r hr
    rw [hr] at hround
    simp only [Bool.and_eq_true, Bool.not_eq_true'] at hround
    exact hround.1
  have hpause : ∀ r p, s.eqc.round = some r → r.pause = some p → p.expired = false := by
    intro r p hr hp
    simpa [hr, hp] using (show _ ∧ _ by simpa [hr, hp] using hround).2
  have hmax : ∀ d, s.wac.dose = some d → d.maxReached = false := by
    intro d hd
    rw [hd] at hdose
    simp only [Bool.and_eq_true, Bool.not_eq_true'] at hdose
    exact hdose.1
  have hdosePoll : ∀ d t, s.wac.dose = some d → d.pollTimer = some t → t < Config.dosePollInterval := by
    intro d t hd ht
    exact (show d.maxReached = false ∧ t < Config.dosePollInterval by simpa [hd, ht] using hdose).2
  have hreservoir : ∀ t, s.wac.pollTimer = some t → t < Config.reservoirPollInterval := by
    intro t ht
    simpa [ht] using hpoll
  have hlimit : s.loop.release ≠ .released true := by
    intro hr
    simp [hr] at hrelease
  have settled (l : List StringNo) : l.foldl (fun acc i => takeSettleEnd i acc) s = s :=
    foldl_keeps (P := fun t => t = s) _ (fun t i ht => by rw [ht]; exact takeSettleEnd_notDue (hsettle i)) l s rfl
  have waited (l : List StringNo) : l.foldl (fun acc i => takeWaitEnd i acc) s = s :=
    foldl_keeps (P := fun t => t = s) _ (fun t i ht => by rw [ht]; exact takeWaitEnd_notDue (hlist i)) l s rfl
  rw [takeDue, takeHour_notDue hhour, takeMinute_notDue hminute, settled,
    takeWindowExpiry_notDue (by simpa using hwindow), takeSweepMatch_notDue hsweep, takeScheduleMatch_notDue hschedule,
    takePeriodExpiry_notDue htimer, takeStandbyRefresh_notDue htimer, takePauseExpired_notDue hpause,
    takeDosePoll_notDue hdosePoll, takeMaximumDose_notDue hmax, takeReservoirPoll_notDue hreservoir,
    takeStale_notDue hstale, takeReleaseLimit_notDue hlimit, waited, judgeDemand_notDue (by simpa using hdemand) hlist]

end

/-! ### The statements -/

/-- Settles O7: nothing is taken, and each timer advances by its own rule. -/
theorem quietTickRunsTheTimers : Obligations.QuietTickRunsTheTimers := by
  intro s h
  change Host.Outcome.next (advance (takeDue s)) = _
  rw [takeDue_notDue h]
  have dose (d : Dose) : d.tick (s.wac.state = .dose) s.settings.maxDoseTime =
      if s.wac.state = .dose ∧ d.outcome = none then
        { d with
          ticks := d.ticks + 1
          elapsed := some (min 65535 (d.elapsed.getD 0 + 1))
          pollTimer := d.pollTimer.map (· + 1)
          maxReached := s.settings.maxDoseTime * 60 ≤ min 65535 (d.elapsed.getD 0 + 1) }
      else { d with ticks := d.ticks + 1 } := by
    simp only [Dose.tick, decide_eq_true_eq]
    split <;> rfl
  have loop : s.loop.tick s.settings.releaseLimit =
      match s.loop.release with
      | .released _ =>
        { s.loop with
          release := .released (s.settings.releaseLimit * 60 ≤ min 65535 (s.loop.releaseTimer + 1))
          releaseTimer := min 65535 (s.loop.releaseTimer + 1) }
      | _ => s.loop := by
    unfold Loop.tick
    split <;> simp_all [satAdd, Config.secondsTop]
  have record (i : StringNo) : ageRecord s.settings.installed[i] s.strings[i] =
      { recordOf s i with
        age := if isInstalled s i then min 65535 ((recordOf s i).age + 1) else (recordOf s i).age } := by
    unfold ageRecord isInstalled recordOf
    split <;> rfl
  congr 1
  simp only [advance, Wac.tick, funext dose, loop, record]
  rfl

/-- Settles O8: each of the three takes its event by its own mark or count, and nothing without it. -/
theorem minuteHourAndSettle : Obligations.MinuteHourAndSettle := by
  refine ⟨fun s => congrArg Host.Outcome.next ?_, fun s => congrArg Host.Outcome.next ?_, fun i s => rfl⟩
  · unfold takeMinute
    split
    · simp only [modPlant]
      congr 2
    · rfl
  · unfold takeHour
    split
    · congr 2
    · rfl

end Sys2Proof.Laws
end

section
/-! SUPPORT. Dispatch: what each channel claims, and the reservoir check. -/

namespace Sys2Proof.Laws

open Sys2Proof.Machine

/-! ### Dispatch (R53 to R56, R131) -/

/-- The conditions of R54 but the window, with those of the entry first. -/
theorem eligibleButWindow_eq (s : State) (e : QueueEntry) :
    eligibleButWindow s e =
      (e.kind = .equalise
        && (isInstalled s e.string && (recordOf s e.string).state = .float && isPresent s (nodeOf e.string))
        && s.eqc.state = .idle && isPresent s boostUnit && !s.plant.stale
        && (!s.plant.discharge && !s.plant.hold && s.loop.release = .free)) := by
  simp only [eligibleButWindow, stringReady, equaliseOpenButWindow, loopFree, Bool.and_assoc, Bool.and_left_comm,
    Bool.and_comm]

/-- The conditions of R55, with those of the entry first. -/
theorem eligibleWater_eq (s : State) (e : QueueEntry) :
    eligibleWater s e =
      (e.kind = .water
        && (isInstalled s e.string && (recordOf s e.string).state = .float && isPresent s (nodeOf e.string))
        && s.wac.state = .idle && isPresent s waterUnit && !s.wac.reservoirLow
        && (!s.plant.discharge && !s.plant.hold && s.loop.release = .free)) := by
  simp only [eligibleWater, stringReady, waterOpen, loopFree, Bool.and_assoc]

theorem queueOrder_eq (q : List QueueEntry) :
    queueOrder q = (q.filter fun e => e.urgency = .urgent) ++ (q.filter fun e => e.urgency = .normal) := by
  have normal (e : QueueEntry) : (!e.urgent) = decide (e.urgency = .normal) := by
    unfold QueueEntry.urgent
    cases e.urgency <;> rfl
  simp only [queueOrder, normal]
  rfl

theorem judgeEqc_of_none {s : State} (h : selectEqualise s = none) : judgeEqc s = s := by simp [judgeEqc, h]

theorem judgeWac_of_none {s : State} (h : selectWater s = none) : judgeWac s = s := by simp [judgeWac, h]

theorem judgeWac_of_some {s : State} {e : QueueEntry} (h : selectWater s = some e) :
    judgeWac s = beginCheck e.string s := by simp [judgeWac, h]

theorem judgeEqc_of_some {s : State} {e : QueueEntry} {n : Fin 4} (h : selectEqualise s = some e)
    (hw : e.work = .equalise n) : judgeEqc s = beginRound e n s := by simp [judgeEqc, h, hw]

/-- With nothing to claim dispatch is the judgement of WINDOW NEEDED. -/
theorem judge_of_none {s : State} (ha : selectEqualise s = none) (hb : selectWater s = none) :
    judge s = judgeWindowNeeded s := by
  simp [judge, judgeChannels, contested, ha, judgeEqc_of_none, judgeWac_of_none, hb]

/-- Settles O9: the statement's conditions are the model's, and each judgement is made on what they select. -/
theorem dispatchIsJudged : Obligations.DispatchIsJudged := by
  intro s
  simp only [← eligibleButWindow_eq, ← eligibleWater_eq]
  have ha : ((queueOrder s.queue).find? fun e => eligibleButWindow s e && s.plant.windowOpen) = selectEqualise s := rfl
  have hb : (if s.wac.check = none then (queueOrder s.queue).find? fun e => eligibleWater s e else none)
      = selectWater s := by
    unfold selectWater
    cases s.wac.check <;> rfl
  simp only [ha, hb]
  refine ⟨queueOrder_eq _, fun e => ⟨rfl, trivial⟩, judgeEqc_of_none, judgeWac_of_none, fun e he n hn => judgeEqc_of_some he hn,
    fun e he => judgeWac_of_some he, ?_, rfl, fun ha hb => judge_of_none ha hb⟩
  rw [judge, judgeChannels]
  rfl

theorem kind_equalise_iff (e : QueueEntry) : e.kind = .equalise ↔ ∃ n, e.work = .equalise n := by
  unfold QueueEntry.kind
  cases e.work <;> simp [Work.kind]

/-- Settles O10: an entry that R54 lets through is claimed with no DISCHARGE standing. -/
theorem equaliseClaimBeginsTheRound : Obligations.EqualiseClaimBeginsTheRound := by
  intro s e h
  obtain ⟨hkind, -, -, -, hd, hstale, hhold, hfree, hopen⟩ := (eligibleEqualise_iff s e).mp (List.find?_some h)
  obtain ⟨rn, hw⟩ := (kind_equalise_iff e).mp hkind
  refine ⟨rn, hw, ?_⟩
  rw [judgeEqc_of_some h hw, beginRound_eq _ _ _ hd]
  have causes : siteCauses s = PauseSet.none := by
    simp [siteCauses, hopen, hstale, hhold, hfree, PauseSet.none]
  simp only [freshRound, causes]
  rfl

/-! ### The reservoir check (R104, R105) -/

/-- What an answered check leaves before the entry is judged. -/
def checkRead (reading : Nat) (s : State) : State :=
  let cleared : Bool := s.wac.reservoirLow && decide (s.settings.reserve + 10 ≤ reading)
  { s with wac := { s.wac with
    check := none, reservoir := some reading
    reservoirLow := s.wac.reservoirLow && !cleared
    pollTimer := if cleared then none else s.wac.pollTimer } }

theorem judgeReservoir_read (reading : Nat) (s : State) :
    judgeReservoir reading (modWac (fun w => { w with check := none }) s) = checkRead reading s := by
  cases hlow : s.wac.reservoirLow
  · simp [judgeReservoir, checkRead, modWac, hlow]
  · by_cases hle : s.settings.reserve + 10 ≤ reading
    · simp [judgeReservoir, checkRead, modWac, hlow, hle]
    · simp [judgeReservoir, checkRead, modWac, hlow, hle]

theorem setReservoirLow_eq (s : State) :
    setReservoirLow s =
      if s.wac.reservoirLow then s
      else { s with wac := { s.wac with
        reservoirLow := true, pollTimer := if s.wac.state = .idle then some 0 else s.wac.pollTimer } } := by
  cases hlow : s.wac.reservoirLow
  · simp [setReservoirLow, modWac, hlow]
  · simp [setReservoirLow, modWac, hlow]

/-- The judgement of a check whose entry still stands (R55, R105). -/
theorem checkEnded_of_entry {s : State} {data : List Octet} {i : StringNo} {e : QueueEntry} {limit : Nat}
    (hi : s.wac.check = some i) (he : checkedEntry i (checkRead (halfAt data 0).toNat s) = some e)
    (hw : e.work = .water limit) :
    checkEnded (.answer data) s =
      let read := checkRead (halfAt data 0).toNat s
      if (halfAt data 0).toNat * 100 < s.settings.reserve * 100 + limit then setReservoirLow read
      else if eligibleWater read e then beginDose e limit read else read := by
  simp only [checkEnded, judgeReservoir_read, hi, Option.bind_some, reservoirOf, he, hw, reservoirShort,
    decide_eq_true_eq]
  rfl

/-- Settles O11: the check's claim marks its entry; its answer is read, and the entry found by its mark is judged. -/
theorem waterClaimAfterTheReservoirCheck : Obligations.WaterClaimAfterTheReservoirCheck := by
  refine ⟨fun s hc e he => ?_, fun s o ho => ?_, fun s data i hi => ⟨fun hnone => ?_, fun e he hchecked => ?_⟩⟩
  · have : selectWater s = some e := by simpa [selectWater, hc] using he
    rw [judgeWac_of_some this]
    rfl
  · cases o with
    | answer data => exact absurd rfl (ho data)
    | fault c => rfl
    | holdExhausted => rfl
    | noAnswer => rfl
    | lineFault => rfl
  · have hgone : checkedEntry i (checkRead (halfAt data 0).toNat s) = none := by
      rw [checkedEntry, Option.filter_eq_none_iff]
      intro e he
      simp [hnone e he]
    simp only [checkEnded, judgeReservoir_read, hi, Option.bind_some, reservoirOf, hgone]
    rfl
  · have hentry : checkedEntry i (checkRead (halfAt data 0).toNat s) = some e := by
      rw [checkedEntry]
      exact Option.filter_eq_some_iff.mpr ⟨he, hchecked⟩
    obtain ⟨hkind, hstring⟩ := findEntry_kind_string _ _ _ _ he
    obtain ⟨limit, hw⟩ : ∃ n, e.work = .water n := by
      cases hwork : e.work with
      | equalise n => simp [QueueEntry.kind, hwork, Work.kind] at hkind
      | water n => exact ⟨n, rfl⟩
    have hfield : e.work.field = limit := by rw [hw]; rfl
    simp only [hfield]
    have judged := checkEnded_of_entry hi hentry hw
    refine ⟨fun hshort => ?_, fun hfull hno => ?_, fun hfull hyes => ?_⟩
    · rw [judged, if_pos hshort, setReservoirLow_eq]
      rfl
    · have hno' : ¬ eligibleWater (checkRead (halfAt data 0).toNat s) e = true := Bool.eq_false_iff.mp hno
      rw [judged, if_neg (Nat.not_lt.mpr hfull), if_neg hno']
      rfl
    · have hyes' : eligibleWater (checkRead (halfAt data 0).toNat s) e = true := hyes
      obtain ⟨-, -, -, -, -, hd, hh, -⟩ := (eligibleWater_iff _ e).mp hyes'
      rw [judged, if_neg (Nat.not_lt.mpr hfull), if_pos hyes', beginDose_eq _ _ _ hd hh]
      simp only [hstring, checkRead, freshDose, recordOf]

end Sys2Proof.Laws
end

section
/-! SUPPORT. A request heard, and a whole reply on the loop, each in one piece. -/

namespace Sys2Proof.Laws

open Sys2Proof.Machine

/-! ### A request heard at a port that may carry it (R165) -/

/-- A permitted request of the right shape is answered by its owner. -/
theorem arrive_owner (p : Port) (tag : Octet) (r : Request) (s : State) (h : hears p s = true)
    (hl : r.params.length ≤ 62) (hp : permitted p r.code = true) (hw : r.wellShaped = true) :
    arrive p tag r s = owing p r.code tag (owner p r s).status (owner p r s).results (owner p r s).state := by
  rw [arrive_hears p tag r s h hl]
  simp [answer, hp, hw]

/-- One of the wrong shape is refused RANGE. -/
theorem arrive_illShaped (p : Port) (tag : Octet) (r : Request) (s : State) (h : hears p s = true)
    (hl : r.params.length ≤ 62) (hp : permitted p r.code = true) (hw : r.wellShaped = false) :
    arrive p tag r s = owing p r.code tag .range [] s := by
  rw [arrive_hears p tag r s h hl]
  simp [answer, hp, hw, refuse]

/-! ### A whole reply on the loop (R138, R140) -/

theorem awaited_eq_some {s : State} {t : Transaction} :
    awaited s = some t ↔ s.loop.inFlight = some (.transaction t) ∧ t.wait = .reply := by
  unfold awaited transactionInFlight
  cases hf : s.loop.inFlight with
  | none => simp
  | some x =>
    cases x with
    | transaction u => simp [Option.filter_eq_some_iff]
    | poll => simp
    | raw => simp

/-- A whole reply with status OK and the data of its command ends the transaction with them. -/
theorem loopReply_ok {s : State} {t : Transaction} {data : List Octet} (h : awaited s = some t)
    (hd : data.length = t.command.replyLength) :
    exec (.loopReply (onLine (replyFrame t.member t.command 0 data))) s = .next (endTransaction t (.answer data) s) := by
  have hlt : data.length < 256 := by
    have short (c : LoopCommand) : c.replyLength ≤ 48 := by
      cases c <;> exact Nat.le_of_ble_eq_true rfl
    have := short t.command
    omega
  have hne : (onLine (replyFrame t.member t.command 0 data)).isEmpty = false := by simp [onLine, replyFrame]
  change Host.Outcome.next (replyArrives _ s) = _
  simp only [replyArrives, h, loopChars_onLine, hne, readReply_replyFrame _ _ _ _ hlt, if_true, hd, takeReply]
  rfl

/-- The loop with an answered transaction ended: its member is present with no failure (R139, R140). -/
def answered (m : MemberNo) (s : State) : State :=
  { s with loop := { s.loop with
    inFlight := none
    present := s.loop.present.set m true
    failures := s.loop.failures.set m 0 } }

theorem endTransaction_answer (t : Transaction) (data : List Octet) (s : State) :
    endTransaction t (.answer data) s =
      judgeDemand (judge (afterEnd t (.answer data) (handOutcome t.claimant (.answer data) (answered t.member s)))) := by
  simp only [endTransaction, marksAbsent_answer, Bool.false_eq_true, if_false]
  rfl

theorem startSafe_of_ne {s : State} (h : s.loop.release ≠ .safeState false none ∧ s.loop.release ≠ .safeState true none) :
    startSafe s = s := by
  unfold startSafe
  split
  · rename_i b hr
    cases b
    · exact absurd hr h.1
    · exact absurd hr h.2
  · rfl

/-- Nothing but the handing over follows where no safe-state sequence stands. -/
theorem afterEnd_of_free {t : Transaction} {o : TxOutcome} {s : State} (hc : ∀ j, t.claimant ≠ .safeState j)
    (h : s.loop.release = .free ∨ s.loop.release = .pending) : afterEnd t o s = s := by
  have : startSafe s = s := startSafe_of_ne (by rcases h with h | h <;> simp [h])
  unfold afterEnd
  split
  · rename_i j hj
    exact absurd hj (hc j)
  · split
    · exact this
    · rfl

end Sys2Proof.Laws
end

section
/-! SUPPORT. The sweep: its course, and what its answers write. -/

namespace Sys2Proof.Laws

open Sys2Proof.Machine

/-! ### The course of a sweep (R23, R25, R26) -/

theorem sweepItems_installed {s : State} {it : SweepItem} (h : it ∈ sweepItems s) : isInstalled s it.string = true := by
  obtain ⟨i, hi, hit⟩ := List.mem_flatMap.mp h
  have hinst := stringsInLoopOrder_installed hi
  split at hit
  · rcases List.mem_pair.mp hit with rfl | rfl
    · exact hinst
    · exact hinst
  · rw [List.mem_singleton.mp hit]
    exact hinst

/-- At its start a sweep reaches its first item. -/
theorem startSweep_eq (s : State) : startSweep s = sweepBegun { s with sweep := { s.sweep with run := none } } := by
  have all : (sweepItems s).dropWhile (fun it => !isInstalled s it.string) = sweepItems s := by
    cases h : sweepItems s with
    | nil => rfl
    | cons it rest =>
      have : isInstalled s it.string = true := sweepItems_installed (by rw [h]; exact List.mem_cons_self)
      simp [this]
  change reachItem (sweepItems s) (modSweep (fun w => { w with dividerCount := dividerAfter s }) s) = _
  have items : (stringsInLoopOrder s).flatMap (fun i =>
      if dividerAtStart s = 0 then [SweepItem.summary i, .cells i] else [.summary i]) = sweepItems s := by
    simp [sweepItems, cellSweep]
  have begun : sweepBegun { s with sweep := { s.sweep with run := none } } =
      { s with
        sweep := { s.sweep with
          dividerCount := dividerAfter s
          run := if (sweepItems s).isEmpty then none else some (sweepItems s) }
        loop := { s.loop with claimSweep := match sweepItems s with | it :: _ => some it | [] => s.loop.claimSweep } } := by
    rw [← items]
    rfl
  rw [begun, reachItem]
  change (match (sweepItems s).dropWhile (fun it => !isInstalled s it.string) with | [] => _ | it :: rest => _) = _
  rw [all]
  cases sweepItems s with
  | nil => rfl
  | cons it rest => rfl

theorem continueSweep_eq (items : List SweepItem) (s : State) : continueSweep items s = sweepGoesOn items s := by
  have same : (fun it : SweepItem => !isInstalled s it.string) = fun it => !s.settings.installed[it.string] := rfl
  unfold continueSweep reachItem sweepGoesOn
  rw [same]
  dsimp only
  cases items.dropWhile (fun it => !s.settings.installed[it.string]) with
  | nil =>
    cases hd : s.sweep.due
    · simp [modSweep, hd]
    · simp [modSweep, hd, startSweep_eq]
  | cons it rest =>
    simp [modSweep, modLoop]

theorem sweepGoesOn_release (items : List SweepItem) (s : State) : (sweepGoesOn items s).loop.release = s.loop.release := by
  unfold sweepGoesOn sweepBegun
  repeat' split
  all_goals rfl

/-- Settles O12: a match starts or is late, and the items that remain are what each end leaves of the run. -/
theorem sweepMatchStartsOrIsLate : Obligations.SweepMatchStartsOrIsLate := by
  refine ⟨fun s h => ?_, fun s hdue hrun => ?_, fun s hdue hrun => ?_, fun s i it rest data o hrun => ⟨?_, fun ho => ?_⟩⟩
  · exact congrArg Host.Outcome.next (takeSweepMatch_notDue h)
  · change Host.Outcome.next (takeSweepMatch s) = _
    have hrun' : (modSweep (fun w => { w with matchDue := false }) s).sweep.run.isSome = false := by simp [hrun]
    rw [takeSweepMatch, if_pos hdue, sweepMatched, hrun']
    simp only [Bool.false_eq_true, if_false]
    rw [startSweep_eq]
    cases hd : s.sweep.due <;> simp [modSweep, hd, hrun]
  · change Host.Outcome.next (takeSweepMatch s) = _
    have hrun' : (modSweep (fun w => { w with matchDue := false }) s).sweep.run.isSome = true := by
      simpa [Option.isSome_iff_ne_none] using hrun
    rw [takeSweepMatch, if_pos hdue, sweepMatched, if_pos hrun']
    rfl
  · have after : itemsAfter s = rest := by simp [itemsAfter, hrun]
    rw [← continueSweep_eq, ← after]
    rfl
  · have after : itemsAfter s = rest := by simp [itemsAfter, hrun]
    simp only [← continueSweep_eq, ← after]
    cases o with
    | answer d => exact absurd rfl (ho d)
    | fault c => exact ⟨rfl, rfl, rfl⟩
    | holdExhausted => exact ⟨rfl, rfl, rfl⟩
    | noAnswer => exact ⟨rfl, rfl, rfl⟩
    | lineFault => exact ⟨rfl, rfl, rfl⟩

/-! ### The answers of a sweep (R27 to R33) -/

/-- The transaction that a sweep item's state awaits. -/
theorem sweepAwaits_transaction {it : SweepItem} {c : LoopCommand} {rest : List SweepItem} {s : State}
    (h : sweepAwaits it c rest s) :
    s.sweep.run = some (it :: rest) ∧ isInstalled s it.string = true
      ∧ (s.loop.release = .free ∨ s.loop.release = .pending)
      ∧ ∃ t, awaited s = some t ∧ t.claimant = .sweep it ∧ t.member = nodeOf it.string ∧ t.command = c := by
  simp only [sweepAwaits, Bool.and_eq_true, Bool.or_eq_true, decide_eq_true_eq] at h
  obtain ⟨⟨⟨hrun, hinst⟩, hrel⟩, hfly⟩ := h
  refine ⟨hrun, hinst, hrel, ?_⟩
  split at hfly
  · rename_i t ht
    simp only [Bool.and_eq_true, decide_eq_true_eq] at hfly
    obtain ⟨⟨⟨hc, hm⟩, hcmd⟩, hw⟩ := hfly
    exact ⟨t, awaited_eq_some.mpr ⟨ht, hw⟩, hc, hm, hcmd⟩
  · cases hfly

/-- The end of an item's answered transaction, up to what its answer writes. -/
theorem sweepAnswered {it : SweepItem} {c : LoopCommand} {rest rest' : List SweepItem} {s u : State} {data : List Octet}
    (h : sweepAwaits it c rest s) (hd : data.length = c.replyLength)
    (hu : sweepItemEnded it (.answer data) (answered (nodeOf it.string) s) = nextItem it rest' u)
    (hrel : u.loop.release = s.loop.release) :
    exec (.loopReply (onLine (replyFrame (nodeOf it.string) c 0 data))) s = .next (judgeDemand (judge (nextItem it rest' u))) := by
  obtain ⟨-, -, hfree, t, ht, hclaim, hm, hcmd⟩ := sweepAwaits_transaction h
  have := loopReply_ok ht (by rw [hcmd]; exact hd)
  rw [hm, hcmd] at this
  rw [this, endTransaction_answer, hclaim, hm]
  change Host.Outcome.next (judgeDemand (judge (afterEnd t _ (sweepItemEnded it _ _)))) = _
  rw [hu, afterEnd_of_free (by simp [hclaim])]
  rw [nextItem, sweepGoesOn_release]
  simpa [hrel] using hfree

theorem octets_append (h : Half) : h.extractLsb' 8 8 ++ h.extractLsb' 0 8 = h := by
  rw [BitVec.extractLsb'_append_extractLsb'_eq_extractLsb' (by rfl), BitVec.extractLsb'_eq_self]

/-- A write of one record is what it makes of the record as it stands. -/
theorem modString_congr {i : StringNo} {f g : StringRecord → StringRecord} {s : State}
    (h : f (recordOf s i) = g (recordOf s i)) : modString i f s = modString i g s := by
  have h' : f s.strings[i] = g s.strings[i] := h
  simp only [modString, h']

theorem flagAt_encFlag (l : List Octet) (b : Bool) (l' : List Octet) : flagAt (l ++ encFlag b ++ l') l.length = b := by
  have : (l ++ encFlag b ++ l').getD l.length 0 = if b then 1 else 0 := by
    simp [encFlag]
  rw [flagAt, this]
  cases b <;> rfl

/-- The summary as its octets have it (R27, R28, Table 10.12). -/
theorem summaryWrite_eq (offset : Int) (interval : Nat) (v is th : Half) (low valve : Bool) (r : StringRecord) :
    summaryWrite offset interval (octetsOfHalf v ++ octetsOfHalf is ++ octetsOfHalf th ++ encFlag low ++ encFlag valve) r =
      let dt := if r.age = 65535 then 0 else min r.age (2 * interval)
      let added := r.remainder + (if is.toInt < -10 then is.toInt.natAbs * dt else 0)
      { r with
        voltage := (clampTo 0 65535 (v.toNat + offset)).toNat
        current := is.toInt
        temperature := clampTo (-400) 1250 th.toInt
        levelLow := low
        age := 0
        throughput :=
          if 1000000 ≤ r.throughput then r.throughput else min 1000000 (r.throughput + added / 3600)
        remainder := if 1000000 ≤ r.throughput then r.remainder else added % 3600 } := by
  generalize hd : octetsOfHalf v ++ octetsOfHalf is ++ octetsOfHalf th ++ encFlag low ++ encFlag valve = data
  have hv : halfAt data 0 = v := by rw [← hd]; exact octets_append v
  have hi : halfAt data 2 = is := by rw [← hd]; exact octets_append is
  have ht : halfAt data 4 = th := by rw [← hd]; exact octets_append th
  have hl : flagAt data 6 = low := by rw [← hd]; exact flagAt_encFlag _ low _
  have clamped : clampTo (-32768) 32767 is.toInt = is.toInt := by
    have hlo : -32768 ≤ is.toInt := by simpa using BitVec.le_toInt is
    have hhi : is.toInt < 32768 := by simpa using BitVec.toInt_lt (x := is)
    rw [clampTo_eq_max_min _ _ _ (by decide)]
    omega
  simp only [summaryWrite, hv, hi, ht, hl, clamped, throughputAddition, throughputInterval, addThroughput,
    calibratedVoltage]
  split <;> rfl

/-- What an answered READ SUMMARY of an installed string leaves: the record written, and the scanner gone on. -/
theorem summaryAnswered_eq {s : State} {i : StringNo} {rest : List SweepItem} {data : List Octet} {valve : Bool}
    {f : StringRecord → StringRecord} (hrun : s.sweep.run = some (.summary i :: rest)) (hinst : isInstalled s i = true)
    (hopen : valveReportedOpen data = valve)
    (hf : summaryWrite s.settings.calibration[i] s.settings.sweepInterval data (recordOf s i) = f (recordOf s i)) :
    summaryAnswered i data (answered (nodeOf i) s) =
      nextItem (.summary i) (if valve && !s.wac.valve.holds i then .closeValve i :: rest else rest) (modString i f s) := by
  have hinst' : isInstalled (answered (nodeOf i) s) i = true := hinst
  have items : itemsAfter (answered (nodeOf i) s) = rest := by simp [itemsAfter, answered, hrun]
  rw [summaryAnswered, if_pos hinst', continueSweep_eq, hopen, ← modString_congr hf]
  change sweepGoesOn (if valve && !s.wac.valve.holds i then .closeValve i :: itemsAfter (answered (nodeOf i) s)
    else itemsAfter (answered (nodeOf i) s)) _ = _
  rw [items]
  rfl

/-- Settles O13: the reply's octets are the fields of the summary, and the scanner goes on from the record written. -/
theorem summaryIsWritten : Obligations.SummaryIsWritten := by
  intro s i rest v is th low valve h
  obtain ⟨hrun, hinst, -⟩ := sweepAwaits_transaction h
  have hopen : valveReportedOpen (octetsOfHalf v ++ octetsOfHalf is ++ octetsOfHalf th ++ encFlag low ++ encFlag valve)
      = valve := by
    have := flagAt_encFlag (octetsOfHalf v ++ octetsOfHalf is ++ octetsOfHalf th ++ encFlag low) valve []
    rw [List.append_nil] at this
    exact this
  have hlen : (octetsOfHalf v ++ octetsOfHalf is ++ octetsOfHalf th ++ encFlag low ++ encFlag valve).length
      = LoopCommand.readSummary.replyLength := rfl
  have hwrite := summaryWrite_eq s.settings.calibration[i] s.settings.sweepInterval v is th low valve (recordOf s i)
  dsimp only at hwrite ⊢
  generalize octetsOfHalf v ++ octetsOfHalf is ++ octetsOfHalf th ++ encFlag low ++ encFlag valve = data at *
  have ends := fun r' u hu hr => sweepAnswered (rest' := r') (u := u) h hlen hu hr
  exact ends _ _ (summaryAnswered_eq hrun hinst hopen hwrite) rfl

/-- The two-octet number at a code's place among the octets of the codes (Table 10.12). -/
theorem halfAt_flatMap (l : List Half) (k : Nat) (h : k < l.length) : halfAt (l.flatMap octetsOfHalf) (2 * k) = l[k] := by
  induction l generalizing k with
  | nil => cases h
  | cons x xs ih =>
    cases k with
    | zero => exact octets_append x
    | succ k => exact ih k (Nat.lt_of_succ_lt_succ h)

/-- The 24 codes of a reply, each with its offset (R31). -/
theorem cellsOf_codes (offset : Int) (codes : Vector Half 24) :
    cellsOf offset (codes.toList.flatMap octetsOfHalf) =
      codes.map fun c => (clampTo 0 4095 (c.toNat + Int.tdiv offset 24)).toNat := by
  ext k hk
  have : halfAt (codes.toList.flatMap octetsOfHalf) (2 * k) = codes[k] := by
    rw [halfAt_flatMap _ _ (by simpa using hk)]
    simp
  simp [cellsOf, calibratedCell, this]

theorem foldl_max_eq (l : List Nat) (a : Nat) : l.foldl max a = max a (l.foldl max 0) := by
  induction l generalizing a with
  | nil => simp
  | cons x xs ih =>
    rw [List.foldl_cons, List.foldl_cons, ih (max a x), ih (max 0 x)]
    omega

theorem foldl_min_eq (l : List Nat) (a b : Nat) (h : a ≤ b) : l.foldl min a = min a (l.foldl min b) := by
  induction l generalizing a b with
  | nil => simpa using h
  | cons x xs ih =>
    rw [List.foldl_cons, List.foldl_cons, ih (min a x) (min b x) (by omega), ih (min b x) b (by omega)]
    omega

/-- A spread is the difference of the greatest and the least cell (Table 1.2). -/
theorem spreadOf_eq (cells : Vector Nat 24) (h : ∀ i : Fin 24, cells[i] ≤ 4095) :
    spreadOf cells = cells.toList.foldl max 0 - cells.toList.foldl min 4095 := by
  obtain ⟨rest, hl⟩ : ∃ rest, cells.toList = cells[0] :: rest := by
    have hlen : cells.toList.length = 24 := by simp
    cases hc : cells.toList with
    | nil => simp [hc] at hlen
    | cons x xs =>
      refine ⟨xs, ?_⟩
      have h0 : cells[0] = cells.toList[0]'(by omega) := by simp
      simp [h0, hc]
  have h0 : cells[0] ≤ 4095 := h 0
  rw [spreadOf, foldl_max_eq, foldl_min_eq _ _ 4095 h0, hl]
  simp only [List.foldl_cons]
  rw [foldl_max_eq rest (max 0 _), foldl_min_eq rest (min 4095 _) 4095 (by omega)]
  congr 1 <;> omega

theorem post_release (e : QueueEntry) (s : State) : (post e s).1.loop.release = s.loop.release := by simp

/-- What an answered READ CELLS of an installed string leaves: the cells written, the spread judged, and the scanner gone
on. -/
theorem cellsAnswered_eq {s : State} {i : StringNo} {rest : List SweepItem} {codes : Vector Half 24}
    (hrun : s.sweep.run = some (.cells i :: rest)) (hinst : isInstalled s i = true) :
    let cells := codes.map fun c => (clampTo 0 4095 (c.toNat + Int.tdiv s.settings.calibration[i] 24)).toNat
    let spread := cells.toList.foldl max 0 - cells.toList.foldl min 4095
    let u := modString i (fun r => { r with cells := some cells }) (answered (nodeOf i) s)
    let checked :=
      if (recordOf s i).state = .float ∧ s.settings.spreadLimit < spread then
        raise .cellAlarm (modSweep (fun w => { w with alarm := some (i, spread) }) (post (spreadPost i u) u).1)
      else u
    cellsAnswered i (codes.toList.flatMap octetsOfHalf) (answered (nodeOf i) s) = nextItem (.cells i) rest checked := by
  intro cells spread u checked
  have hspread : spreadOf cells = spread := by
    refine spreadOf_eq cells fun k => ?_
    have := clampTo_le 0 4095 (codes[k].toNat + Int.tdiv s.settings.calibration[i] 24) (by decide)
    have hk : cells[k] = (clampTo 0 4095 (codes[k].toNat + Int.tdiv s.settings.calibration[i] 24)).toNat := by
      simp [cells]
    rw [hk]
    omega
  have hinst' : isInstalled (answered (nodeOf i) s) i = true := hinst
  have hcells : cellsOf (answered (nodeOf i) s).settings.calibration[i] (codes.toList.flatMap octetsOfHalf) = cells :=
    cellsOf_codes _ codes
  have hstate : (recordOf u i).state = (recordOf s i).state := by
    simp [u, recordOf, answered]
  have hcheck : spreadCheck i spread u = checked := by
    have : isInstalled u i = true := hinst
    simp only [spreadCheck, this, hstate, checked, Bool.true_and, Bool.and_eq_true, decide_eq_true_eq]
    rfl
  have hloop : checked.loop = u.loop := by
    simp only [checked]
    split <;> simp
  have hitems : itemsAfter checked = rest := by
    have : checked.sweep.run = s.sweep.run := by
      simp only [checked]
      split <;> simp [u, answered]
    simp [itemsAfter, this, hrun]
  rw [cellsAnswered, if_pos hinst', hcells]
  change continueSweep (itemsAfter (spreadCheck i (spreadOf cells) u)) (spreadCheck i (spreadOf cells) u) = _
  rw [hspread, hcheck, hitems, continueSweep_eq, nextItem, hloop]
  have hu : u.loop = (answered (nodeOf i) s).loop := rfl
  have : { checked with loop := { u.loop with
      inFlight := none
      present := u.loop.present.set (nodeOf i) true
      failures := u.loop.failures.set (nodeOf i) 0 } } = checked := by
    rw [hu]
    have : { (answered (nodeOf i) s).loop with
        inFlight := none
        present := (answered (nodeOf i) s).loop.present.set (nodeOf i) true
        failures := (answered (nodeOf i) s).loop.failures.set (nodeOf i) 0 } = checked.loop := by
      rw [hloop, hu]
      simp [answered]
    rw [this]
  exact (congrArg (sweepGoesOn rest) this).symm

/-- Settles O14: the reply's octets are the codes, and the scanner goes on from the cells written and judged. -/
theorem cellsAreWrittenAndChecked : Obligations.CellsAreWrittenAndChecked := by
  intro s i rest codes h
  obtain ⟨hrun, hinst, hfree, -⟩ := sweepAwaits_transaction h
  have hlen : (codes.toList.flatMap octetsOfHalf).length = LoopCommand.readCells.replyLength := by
    have (l : List Half) : (l.flatMap octetsOfHalf).length = 2 * l.length := by
      induction l with
      | nil => rfl
      | cons x xs ih =>
        rw [List.flatMap_cons, List.length_append, ih, List.length_cons]
        simp [octetsOfHalf]
        omega
    rw [this]
    change 2 * codes.toList.length = 48
    simp
  have hends := cellsAnswered_eq (codes := codes) hrun hinst
  generalize codes.toList.flatMap octetsOfHalf = data at *
  have ends := fun r' u hu hr => sweepAnswered (rest' := r') (u := u) h hlen hu hr
  refine ends _ _ hends ?_
  split <;> simp

end Sys2Proof.Laws
end

section
/-! SUPPORT. The traversal of the Schedule List, and REQUEST ROUND. -/

namespace Sys2Proof.Laws

open Sys2Proof.Machine

/-! ### The traversal of the Schedule List (R38, R40 to R43) -/

/-- One entry of the traversal, with settings as they stood at its start. -/
def entryTaken (s t : State) (k : Fin 24) : State :=
  let e := s.settings.schedule[k]
  let r := recordOf t e.string
  let due := match e.work with
    | .equalise _ trigger =>
      r.hoursEqualise.all (e.interval ≤ ·) || (trigger ≠ 0 && 10 * trigger ≤ r.throughput)
    | .water _ => r.hoursWater.all (e.interval ≤ ·)
  let entry : QueueEntry :=
    { work := match e.work with | .equalise n _ => .equalise n | .water n => .water n
      string := e.string, urgency := .normal, origin := .schedule }
  if e.enabled && isInstalled s e.string && due then judge (post entry t).1 else t

theorem hoursDue_eq (h : Option Nat) (n : Nat) : hoursDue h n = h.all (n ≤ ·) := by
  cases h <;> rfl

theorem judgeEntry_eq (s t : State) (k : Fin 24) (h : t.settings = s.settings) : judgeEntry t k = entryTaken s t k := by
  have inst (i : StringNo) : isInstalled t i = isInstalled s i := by simp [isInstalled, h]
  unfold judgeEntry entryTaken entryDue schedulePost
  simp only [h, inst, hoursDue_eq]
  cases s.settings.schedule[k].work <;> rfl

theorem entryTaken_settings (s t : State) (k : Fin 24) : (entryTaken s t k).settings = t.settings := by
  have taken (b : Bool) (e : QueueEntry) : (if b then judge (post e t).1 else t).settings = t.settings := by
    cases b <;> simp
  exact taken _ _

theorem foldl_entryTaken (s t : State) (l : List (Fin 24)) (h : t.settings = s.settings) :
    l.foldl judgeEntry t = l.foldl (entryTaken s) t := by
  induction l generalizing t with
  | nil => rfl
  | cons k l ih =>
    rw [List.foldl_cons, List.foldl_cons, judgeEntry_eq s t k h]
    exact ih _ ((entryTaken_settings s t k).trans h)

theorem entryTaken_disabled {s : State} {k : Fin 24} (h : s.settings.schedule[k].enabled = false) (t : State) :
    entryTaken s t k = t := by
  simp [entryTaken, show s.settings.schedule[k.val].enabled = false from h]

/-- Entries that change nothing may be left out of a traversal. -/
theorem foldl_filter_of_id {f : State → Fin 24 → State} {p : Fin 24 → Bool} (h : ∀ k, p k = false → ∀ t, f t k = t)
    (l : List (Fin 24)) (t : State) : l.foldl f t = (l.filter p).foldl f t := by
  induction l generalizing t with
  | nil => rfl
  | cons k l ih =>
    cases hk : p k
    · simp [hk, h k hk, ih]
    · simp [hk, ih]

theorem exec_scheduleMatch {s : State} (h : s.schedule.matchDue) :
    exec .scheduleMatch s = .next ((List.finRange 24).foldl (entryTaken s)
      { s with schedule := { s.schedule with matchDue := false } }) := by
  change Host.Outcome.next (takeScheduleMatch s) = _
  rw [takeScheduleMatch, if_pos h, Machine.traverse]
  exact congrArg Host.Outcome.next (foldl_entryTaken s _ _ rfl)

theorem finRange_filter_one (k : Fin 24) : (List.finRange 24).filter (fun n => n = k) = [k] := by
  revert k
  decide

theorem finRange_filter_two (j k : Fin 24) (h : j < k) :
    (List.finRange 24).filter (fun n => n = j ∨ n = k) = [j, k] := by
  revert j k
  decide

/-- Settles O15: the traversal is one fold, from which entries that are not enabled may be left out. -/
theorem scheduleMatchPostsWhatIsDue : Obligations.ScheduleMatchPostsWhatIsDue := by
  refine ⟨fun s h => congrArg Host.Outcome.next (takeScheduleMatch_notDue h), fun s h => ?_⟩
  refine ⟨exec_scheduleMatch h, fun k hk => ?_, fun j k hjk hn => ?_⟩
  · rw [exec_scheduleMatch h, foldl_filter_of_id (p := fun n => n = k), finRange_filter_one]
    · rfl
    · exact fun n hne => entryTaken_disabled (hk n (of_decide_eq_false hne))
  · rw [exec_scheduleMatch h, foldl_filter_of_id (p := fun n => n = j ∨ n = k), finRange_filter_two j k hjk]
    · rfl
    · intro n hne
      have hne := of_decide_eq_false hne
      exact entryTaken_disabled (hn n (fun h => hne (.inl h)) (fun h => hne (.inr h)))

/-! ### REQUEST ROUND (R50) -/

theorem exec_requestRound (p : Port) (tag kind string urgency presence recipe : Octet) (dose : Half) (s : State) :
    exec (.requestRound p tag kind string urgency presence recipe dose) s =
      .next (arrive p tag (.requestRound kind string urgency presence recipe dose) s) := rfl

theorem exec_requestRound_service {tag kind string urgency presence recipe : Octet} {dose : Half} {s : State}
    (h : hears .service s) (hk : kind.toNat ≤ 1 ∧ urgency.toNat ≤ 1 ∧ presence.toNat ≤ 3) :
    let a := answerRequestRound kind string urgency presence recipe dose s
    exec (.requestRound .service tag kind string urgency presence recipe dose) s =
      .next (owing .service 0x0E tag a.status a.results a.state) := by
  obtain ⟨h1, h2, h3⟩ := hk
  rw [exec_requestRound, arrive_owner .service tag _ s h (Nat.le_of_ble_eq_true rfl) rfl]
  · rfl
  · simp [Request.wellShaped, h1, h2, h3]

/-- A field given out of its range (R50). -/
theorem badFields_iff (a b : Bool) (r d : Nat) :
    badFields (given a r) (given b d) = true ↔ (a = true ∧ 4 ≤ r) ∨ (b = true ∧ (d = 0 ∨ 10000 < d)) := by
  cases a <;> cases b <;> simp [badFields, given] <;> omega

theorem permitted_requestRound (p : Port) (h : p ≠ .service) : permitted p 0x0E = false := by
  cases p with
  | plant => rfl
  | energy => rfl
  | service => exact absurd rfl h

/-- Settles O17: the owner looks at the string, then at the fields given, and posts what they name. -/
theorem requestRoundPosts : Obligations.RequestRoundPosts := by
  refine ⟨fun s tag kind string urgency presence recipe dose h hk hbad => ?_,
    fun s tag kind urgency presence recipe dose i h hk hgood => ?_,
    fun s p tag kind string urgency presence recipe dose hp h => ?_⟩
  · rw [exec_requestRound_service h hk]
    have : answerRequestRound kind string urgency presence recipe dose s = refuse .range s := by
      unfold answerRequestRound
      cases hf : finOf 8 string with
      | none => rfl
      | some i =>
        have hlt : string.toNat < 8 := by
          by_contra hge
          rw [finOf_eq_none 8 string (Nat.not_lt.mp hge)] at hf
          cases hf
        have hbad' : badFields (given (presence.getLsbD 0) recipe.toNat) (given (presence.getLsbD 1) dose.toNat) = true := by
          rw [badFields_iff]
          rcases hbad with h8 | hr | ⟨hd, hz | hz⟩
          · omega
          · exact .inl hr
          · exact .inr ⟨hd, .inl (by rw [hz]; rfl)⟩
          · exact .inr ⟨hd, .inr hz⟩
        exact if_pos hbad'
    rw [this]
    rfl
  · rw [exec_requestRound_service h hk]
    have hgood' : badFields (given (presence.getLsbD 0) recipe.toNat) (given (presence.getLsbD 1) dose.toNat) = false := by
      rw [← Bool.not_eq_true, badFields_iff]
      obtain ⟨hr, hd⟩ := hgood
      rintro (⟨hb, h4⟩ | ⟨hb, h0⟩)
      · rcases hr with hr | hr
        · exact Bool.false_ne_true (hr.symm.trans hb)
        · omega
      · rcases hd with hd | hd
        · exact Bool.false_ne_true (hd.symm.trans hb)
        · omega
    have hwork : requestedWork (kindOf kind) i (given (presence.getLsbD 0) recipe.toNat)
          (given (presence.getLsbD 1) dose.toNat) s =
        if kind = 0 then
          .equalise (if presence.getLsbD 0 then Fin.ofNat 4 recipe.toNat else s.settings.defaultRecipe[i])
        else .water (if presence.getLsbD 1 then dose.toNat else s.settings.dmax) := by
      unfold kindOf given
      split
      · cases presence.getLsbD 0 <;> rfl
      · cases presence.getLsbD 1 <;> rfl
    simp only [answerRequestRound, finOf_ofNat 8 (by decide) i, hgood', hwork]
    simp only [Bool.false_eq_true, if_false, kindOf]
    congr 1
    generalize post _ s = posted
    cases hres : posted.2 <;> rfl
  · rw [exec_requestRound]
    exact congrArg Host.Outcome.next
      (arrive_notPermitted p tag _ s h (Nat.le_of_ble_eq_true rfl) (permitted_requestRound p hp))

end Sys2Proof.Laws
end

section
/-! SUPPORT. A round open or decided, and what deciding its outcome does. -/

namespace Sys2Proof.Laws

open Sys2Proof.Machine

/-! ### The round context, open or not (R74) -/

section
variable {s : State} {r : Round}

theorem openRound_of_state (hr : s.eqc.round = some r) (ho : r.outcome = none)
    (hst : s.eqc.state = .connect ∨ s.eqc.state = .raise ∨ s.eqc.state = .hold ∨ s.eqc.state = .paused) :
    openRound s = some r := by
  rcases hst with h | h | h | h <;> simp [openRound, h, hr, ho]

theorem openRound_of_decided (hr : s.eqc.round = some r) (ho : r.outcome.isSome) : openRound s = none := by
  cases h : openRound s with
  | none => rfl
  | some x =>
    obtain ⟨hx, hnone, -⟩ := Basic.openRound_eq_some h
    rw [Option.some.inj (hr.symm.trans hx), hnone] at ho
    cases ho

theorem openRound_of_shut (h : s.eqc.state = .idle ∨ s.eqc.state = .detach ∨ s.eqc.state = .fault) :
    openRound s = none := by
  rcases h with h | h | h <;> simp [openRound, h]

theorem openRound_setRound {x : Round} (h : openRound s = some r) (ho : x.outcome = none) :
    openRound (setRound x s) = some x := by
  unfold openRound at h ⊢
  change (match s.eqc.state, some x with
    | .connect, some r | .raise, some r | .hold, some r | .paused, some r => if r.outcome.isNone then some r else none
    | _, _ => none) = some x
  split at h
  all_goals first
    | (rename_i hs hr; rw [hs]; simp [ho])
    | cases h

/-- Entry to DETACH, in one piece (R75, R76). -/
theorem enterDetach_eq (hr : s.eqc.round = some r) :
    enterDetach s =
      { s with
        eqc := { s.eqc with
          state := .detach
          round := some { r with pause := none, timer := { r.timer with running := false } } }
        loop := { s.loop with claimEqualise := some .detach } } := by
  simp [enterDetach, modRound, modEqc, setEqcState, claimEqualise, modLoop, hr, PeriodTimer.stop]

theorem stopTimer_eq (hr : s.eqc.round = some r) :
    stopTimer s =
      { s with eqc := { s.eqc with round := some { r with timer := { r.timer with running := false } } } } := by
  simp [stopTimer, modRound, modEqc, hr, PeriodTimer.stop]

end

/-! ### Deciding the outcome (R74, R75) -/

section
variable {s : State} {r : Round} {o : EqOutcome}

theorem decideEqualise_of_closed (h : openRound s = none) : decideEqualise o s = s := by
  simp [decideEqualise, h]

theorem decideEqualise_of_open (h : openRound s = some r) :
    decideEqualise o s = stopDriving (setRound { r with outcome := some o } s) := by
  simp [decideEqualise, h]

end

theorem stopDriving_of_driving {s : State} (h : s.eqc.state = .raise ∨ s.eqc.state = .hold) :
    stopDriving s =
      if (equaliseInFlight s).isSome ∨ s.loop.claimEqualise = some .pauseStandby then stopTimer s else enterDetach s := by
  rcases h with h | h <;> simp [stopDriving, h]

theorem stopDriving_of_paused {s : State} (h : s.eqc.state = .paused) :
    stopDriving s =
      if isReleased s then withdrawEqualise (stopTimer s)
      else if (equaliseInFlight s).isSome then stopTimer s else enterDetach s := by
  unfold stopDriving isReleased
  rw [h]
  cases s.loop.release <;> rfl

theorem stopDriving_of_connect_flying {s : State} (h : s.eqc.state = .connect) (hf : (equaliseInFlight s).isSome) :
    stopDriving s = s := by
  simp [stopDriving, h, hf]

theorem stopDriving_of_connect {s : State} {r : Round} (h : s.eqc.state = .connect) (hf : equaliseInFlight s = none)
    (hr : s.eqc.round = some r) :
    stopDriving s =
      if (∃ i, s.loop.claimEqualise = some (.attach i)) ∧ r.faultAtEnd = false then endRound false false (withdrawEqualise s)
      else enterDetach s := by
  unfold stopDriving
  rw [h, hf, hr]
  simp only [Option.isSome_none, Bool.false_eq_true, if_false]
  split
  · rename_i i x hi hx
    obtain rfl := Option.some.inj hx
    cases r.faultAtEnd <;> simp [hi]
  · rename_i hno
    rw [if_neg]
    rintro ⟨⟨i, hi⟩, -⟩
    exact hno i r hi rfl

/-- Settles O21: a round that is not open is left, and one that is open is stopped as its state has it. -/
theorem equaliseOutcomeIsDecidedOnce : Obligations.EqualiseOutcomeIsDecidedOnce := by
  intro s o r hr
  refine ⟨fun h => decideEqualise_of_closed ?_, fun ho => ?_⟩
  · rcases h with h | h
    · exact openRound_of_decided hr h
    · exact openRound_of_shut h
  intro stopped kept detaching
  have put (hst : s.eqc.state = .connect ∨ s.eqc.state = .raise ∨ s.eqc.state = .hold ∨ s.eqc.state = .paused) :
      decideEqualise o s = stopDriving (setRound { r with outcome := some o } s) :=
    decideEqualise_of_open (openRound_of_state hr ho hst)
  have still : stopTimer (setRound { r with outcome := some o } s) = kept :=
    stopTimer_eq (s := setRound { r with outcome := some o } s) (r := { r with outcome := some o }) rfl
  have detach : enterDetach (setRound { r with outcome := some o } s) = detaching :=
    enterDetach_eq (s := setRound { r with outcome := some o } s) (r := { r with outcome := some o }) rfl
  refine ⟨fun hst => ?_, fun hst => ?_, fun hst hfly => ?_, fun hst hfly hclaim hown => ?_, fun hst hfly hclaim hmark => ?_⟩
  · rw [put (by rcases hst with h | h <;> simp [h]),
      stopDriving_of_driving (s := setRound { r with outcome := some o } s) hst, still, detach]
    rfl
  · rw [put (by simp [hst]),
      stopDriving_of_paused (s := setRound { r with outcome := some o } s) hst, still, detach]
    rfl
  · rw [put (by simp [hst]),
      stopDriving_of_connect_flying (s := setRound { r with outcome := some o } s) hst hfly]
    rfl
  · rw [put (by simp [hst]),
      stopDriving_of_connect (s := setRound { r with outcome := some o } s) hst hfly (r := { r with outcome := some o }) rfl, detach, if_neg]
    rintro ⟨⟨i, hi⟩, hmark⟩
    rcases hclaim with h | h
    · exact h (by rw [show s.loop.claimEqualise = some (.attach i) from hi, hown i hi])
    · exact absurd (h.symm.trans hmark) (by decide)
  · rw [put (by simp [hst]),
      stopDriving_of_connect (s := setRound { r with outcome := some o } s) hst hfly (r := { r with outcome := some o }) rfl,
      if_pos ⟨⟨r.string, hclaim⟩, hmark⟩]
    rfl

end Sys2Proof.Laws
end

section
/-! SUPPORT. CONNECT, pausing and DETACH, each transaction by its outcome. -/

namespace Sys2Proof.Laws

open Sys2Proof.Machine

/-! ### Pausing and resuming (R70 to R72) -/

theorem low_iff (sp : Setpoint) (rc : Recipe) : sp.low rc = true ↔ sp.perm < rc.imin := decide_eq_true_iff

/-- The resume at a given voltage reading (R72, R93). -/
def resumedAt (vs : Nat) (r : Round) (s : State) : State :=
  let timer : PeriodTimer := { count := 0, length := s.settings.period, running := true }
  let sp := setpointAt s r vs
  { s with eqc :=
      if sp.perm < r.recipe.imin then
        { s.eqc with round := some { r with
          pauses := { r.pauses with lowEnergy := true }, timer := timer, acct := { r.acct with held := none } } }
      else
        { s.eqc with
          state := match r.acct.lastFresh with
            | some rd => if sp.target ≤ rd.vs + 24 * r.recipe.approachBand then .hold else .raise
            | none => .raise
          round := some { r with
            pause := none, timer := timer
            acct := { r.acct with
              held := some sp, plateau := 0, windowTime := 0, windowMin := none, prevMin := none } } } }

theorem resumed_eq_resumedAt (r : Round) (s : State) : resumed r s = resumedAt (resumeVoltage s r) r s := by
  unfold resumed resumedAt resumeVoltage
  cases hr : r.acct.lastRefresh <;> cases hf : r.acct.lastFresh <;> rfl

theorem resumeRound_eq (r : Round) (s : State) : resumeRound r s = resumed r s := by
  rw [resumed_eq_resumedAt]
  unfold resumeRound resumedAt
  dsimp only
  by_cases hlow : (setpointAt s r (resumeVoltage s r)).perm < r.recipe.imin
  · rw [if_pos ((low_iff _ _).mpr hlow), if_pos hlow]
    rfl
  · rw [if_neg (mt (low_iff _ _).mp hlow), if_neg hlow]
    cases r.acct.lastFresh with
    | none => rfl
    | some rd =>
      by_cases hb : (setpointAt s r (resumeVoltage s r)).target ≤ rd.vs + 24 * r.recipe.approachBand
      · simp [hb, setEqcState, setRound, modEqc, startedTimer, firstWindow, startWindow]
      · simp [hb, setEqcState, setRound, modEqc, startedTimer, firstWindow, startWindow]

theorem resumeIfClear_of_paused {s : State} {r : Round} (hst : s.eqc.state = .paused) (h : openRound s = some r) :
    resumeIfClear s = if r.pauses.isEmpty then resumed r s else s := by
  simp [resumeIfClear, hst, h, resumeRound_eq]

theorem resumeIfClear_of_ne {s : State} (hst : s.eqc.state ≠ .paused) : resumeIfClear s = s := by
  unfold resumeIfClear
  split
  · rename_i h _
    exact absurd h hst
  · rfl

/-- Entry to PAUSED of an open round (R65, R70, R83). -/
theorem enterPaused_eq {s : State} {r : Round} (ph : Phase) (hr : s.eqc.round = some r) (ho : r.outcome = none) :
    enterPaused ph s =
      let x : Round := { r with
        pause := some { phase := ph, elapsed := 0, expired := false }
        timer :=
          if r.pauses.lowEnergy then { count := 0, length := s.settings.period, running := true }
          else { r.timer with running := false }
        acct := { r.acct with held := none } }
      let t := raise .roundPaused { s with eqc := { s.eqc with state := .paused, round := some x } }
      if r.pauses.isEmpty then resumed x t else t := by
  have moved : enterPaused ph s = resumeIfClear (raise .roundPaused { s with eqc := { s.eqc with
      state := .paused
      round := some { r with
        pause := some { phase := ph, elapsed := 0, expired := false }
        timer :=
          if r.pauses.lowEnergy then { count := 0, length := s.settings.period, running := true }
          else { r.timer with running := false }
        acct := { r.acct with held := none } } } }) := by
    simp only [enterPaused, modRound, modEqc, hr, Option.map_some]
    rfl
  rw [moved, resumeIfClear_of_paused rfl (openRound_of_state rfl (by exact ho) (.inr (.inr (.inr rfl))))]

theorem placePauseStandby_eq {s : State} {r : Round} (hr : s.eqc.round = some r) :
    placePauseStandby s =
      { s with
        eqc := { s.eqc with round := some { r with pauseOwed := false, acct := { r.acct with held := none } } }
        loop := { s.loop with claimEqualise := some .pauseStandby } } := by
  simp [placePauseStandby, modRound, modEqc, claimEqualise, modLoop, hr]

theorem addPause_of_open {s : State} {r : Round} (c : PauseCause) (h : openRound s = some r) :
    addPause c s =
      if (s.eqc.state = .raise ∨ s.eqc.state = .hold) ∧ r.pauses.isEmpty then
        takePause (setRound { r with pauses := r.pauses.put c true } s)
      else setRound { r with pauses := r.pauses.put c true } s := by
  unfold addPause
  rw [h]
  cases s.eqc.state <;> simp

theorem removePause_of_open {s : State} {r : Round} (c : PauseCause) (h : openRound s = some r) :
    removePause c s = resumeIfClear (setRound { r with pauses := r.pauses.put c false } s) := by
  simp [removePause, h]

theorem takePause_eq {s : State} {r : Round} (hr : s.eqc.round = some r) :
    takePause s =
      let still : Round := { r with timer := { r.timer with running := false } }
      match equaliseInFlight s with
      | some .pauseStandby => { s with eqc := { s.eqc with round := some still } }
      | some _ => { s with eqc := { s.eqc with round := some { still with pauseOwed := true } } }
      | none =>
        if s.loop.claimEqualise = some .pauseStandby then { s with eqc := { s.eqc with round := some still } }
        else
          { s with
            eqc := { s.eqc with round := some { still with pauseOwed := false, acct := { r.acct with held := none } } }
            loop := { s.loop with claimEqualise := some .pauseStandby } } := by
  have flying : equaliseInFlight (stopTimer s) = equaliseInFlight s := rfl
  have claimed : (stopTimer s).loop = s.loop := rfl
  unfold takePause
  dsimp only
  rw [flying, claimed]
  cases equaliseInFlight s with
  | none =>
    dsimp only
    split
    · exact stopTimer_eq hr
    · rw [stopTimer_eq hr, placePauseStandby_eq rfl]
  | some j => cases j <;> simp [stopTimer_eq hr, modRound, modEqc]

/-! ### What the transactions of CONNECT, a pause and DETACH bring (R64, R65, R70, R71, R76) -/

theorem connectStandbyEnded_of_closed {s : State} (o : TxOutcome) (h : openRound s = none) :
    connectStandbyEnded o s = if s.eqc.round.isSome then enterDetach s else s := by
  simp [connectStandbyEnded, h]

/-- A transaction's end that is not an answer, case by case. -/
theorem failed_cases {o : TxOutcome} (h : ∀ d, o ≠ .answer d) :
    (∃ c, o = .fault c) ∨ o = .holdExhausted ∨ o = .noAnswer ∨ o = .lineFault := by
  cases o with
  | answer d => exact absurd rfl (h d)
  | fault c => exact .inl ⟨c, rfl⟩
  | holdExhausted => exact .inr (.inl rfl)
  | noAnswer => exact .inr (.inr (.inl rfl))
  | lineFault => exact .inr (.inr (.inr rfl))

theorem attachEnded_failed {s : State} {r : Round} {o : TxOutcome} (i : StringNo) (hr : s.eqc.round = some r)
    (ho : ∀ d, o ≠ .answer d) :
    attachEnded i o s =
      let u := { s with eqc := { s.eqc with round := some { r with
        outcome := some (r.outcome.getD (.aborted (if o = .noAnswer ∨ o = .lineFault then .boostLost else .noAttach))) } } }
      if r.faultAtEnd then enterDetach u else endRound false false u := by
  rcases failed_cases ho with ⟨c, rfl⟩ | rfl | rfl | rfl <;> simp only [attachEnded, hr] <;> rfl

/-- Settles O22: ATTACH and STANDBY of CONNECT, by whether the outcome stands and what the transaction brought. -/
theorem connectOpensTheRound : Obligations.ConnectOpensTheRound := by
  refine ⟨fun s hst r hr => ⟨fun ho => ⟨fun i data => ?_, fun o => ?_⟩, fun i o hfail hmark => ?_⟩,
    fun s hst r hr ho => ⟨fun i data => ?_, fun i o hfail hmark => ?_, fun data hp hperm => ?_, fun data hp => ?_,
      fun o hfail => ?_⟩⟩
  · simp only [attachEnded, hr, ho, if_true]
    rw [enterDetach_eq (s := setAttachment (.names i true) s) (r := r) hr]
    rfl
  · rw [connectStandbyEnded_of_closed o (openRound_of_decided hr ho), hr, Option.isSome_some, if_pos rfl, enterDetach_eq hr]
    simp [hr]
  · rw [attachEnded_failed i hr hfail]
    dsimp only
    split
    · rw [enterDetach_eq rfl]
      rfl
    · rfl
  · simp only [attachEnded, hr, ho, Option.isSome_none, Bool.false_eq_true, if_false]
    simp [claimEqualise, setAttachment, modEqc, modLoop, hr]
  · rw [attachEnded_failed i hr hfail]
    dsimp only
    rw [hmark, ho]
    rfl
  · have hopen := openRound_of_state hr ho (.inl hst)
    simp only [connectStandbyEnded, hopen, hp, if_true]
    rw [if_neg (mt (low_iff _ _).mp (Nat.not_lt.mpr hperm))]
    rfl
  · have hopen := openRound_of_state hr ho (.inl hst)
    simp only [connectStandbyEnded, hopen]
    by_cases he : r.pauses.isEmpty
    · have hperm : (setpointAt s r (recordOf s r.string).voltage).perm < r.recipe.imin := by
        rcases hp with h | h
        · exact absurd (h.symm.trans he) (by decide)
        · exact h
      rw [if_pos he, if_pos ((low_iff _ _).mpr hperm),
        enterPaused_eq (r := { r with pauses := r.pauses.put .lowEnergy true }) _ rfl ho]
      have hne : PauseSet.isEmpty { r.pauses with lowEnergy := true } = false := by simp [PauseSet.isEmpty]
      simp [he, hne, PauseSet.put, setRound, modEqc]
    · rw [if_neg he, enterPaused_eq _ hr ho]
      simp [he]
  · have hopen := openRound_of_state hr ho (.inl hst)
    simp only [connectStandbyEnded, hopen]

/-- Settles O24: DETACH ended, by its outcome and the record. -/
theorem detachEndsTheRound : Obligations.DetachEndsTheRound := by
  intro s o r hr
  refine ⟨fun ⟨d, hd⟩ => ?_, fun hfail hatt => ?_, fun i c hfail hatt => ?_⟩
  · simp [hd, detachEnded, hr, setAttachment, modEqc]
  · rcases failed_cases hfail with ⟨c, rfl⟩ | rfl | rfl | rfl <;> simp only [detachEnded, hr, hatt]
  · rcases failed_cases hfail with ⟨c, rfl⟩ | rfl | rfl | rfl <;> simp [detachEnded, hr, hatt, setAttachment, modEqc]

end Sys2Proof.Laws
end

section
/-! SUPPORT. Pause causes, resuming and the standby refresh. -/

namespace Sys2Proof.Laws

open Sys2Proof.Machine

/-! ### Pause causes, a pause's STANDBY and the standby refresh (R70 to R72, R75) -/

section
variable {s : State} {r : Round}

theorem pauseStandbyEnded_of_decided (o : TxOutcome) (hr : s.eqc.round = some r) (ho : r.outcome.isSome) :
    pauseStandbyEnded o s = enterDetach s := by
  simp [pauseStandbyEnded, openRound_of_decided hr ho, hr]

theorem refreshEnded_of_decided (o : TxOutcome) (hr : s.eqc.round = some r) (ho : r.outcome.isSome) :
    refreshEnded o s = enterDetach s := by
  simp [refreshEnded, openRound_of_decided hr ho, hr]

theorem pauseStandbyEnded_answer (data : List Octet) (h : openRound s = some r) :
    pauseStandbyEnded (.answer data) s = enterPaused (phaseOf s.eqc.state) s := by
  simp [pauseStandbyEnded, h]

theorem pauseStandbyEnded_failed {o : TxOutcome} (h : openRound s = some r) (ho : ∀ d, o ≠ .answer d) :
    pauseStandbyEnded o s = placePauseStandby s := by
  rcases failed_cases ho with ⟨c, rfl⟩ | rfl | rfl | rfl <;> simp [pauseStandbyEnded, h]

theorem refreshEnded_answer (data : List Octet) (h : openRound s = some r) :
    refreshEnded (.answer data) s =
      let rd := readingOf data
      let x : Round := { r with failures := 0, acct := { r.acct with lastRefresh := some rd } }
      if (setpointAt s r rd.vs).perm < r.recipe.imin then setRound { x with timer := startedTimer s } s
      else removePause .lowEnergy (setRound x s) := by
  have same : setpointAt s { r with failures := 0, acct := { r.acct with lastRefresh := some (readingOf data) } }
      (readingOf data).vs = setpointAt s r (readingOf data).vs := rfl
  simp only [refreshEnded, h, same, low_iff]

theorem refreshEnded_failed {o : TxOutcome} (h : openRound s = some r) (ho : ∀ d, o ≠ .answer d) :
    refreshEnded o s =
      if r.failures < 2 then setRound { r with failures := r.failures + 1, timer := startedTimer s } s
      else decideEqualise (.aborted .boostLost) (setRound { r with failures := r.failures + 1 } s) := by
  have third : r.failures + 1 < 3 ↔ r.failures < 2 := by omega
  rcases failed_cases ho with ⟨c, rfl⟩ | rfl | rfl | rfl <;> simp only [refreshEnded, h, third]

end

/-- Settles O25: each event of a pause, on an open round by its state, and on a decided one. -/
theorem pauseCausesPauseAndResume : Obligations.PauseCausesPauseAndResume := by
  intro s c data o
  refine ⟨fun h => ⟨by simp [addPause, h], by simp [removePause, h]⟩, fun r hr ho => ?_, fun r hopen => ?_⟩
  · rw [pauseStandbyEnded_of_decided o hr ho, refreshEnded_of_decided o hr ho, enterDetach_eq hr]
    exact ⟨rfl, rfl⟩
  obtain ⟨hr, ho, -⟩ := Basic.openRound_eq_some hopen
  intro joined left put claim
  have hleft : openRound (setRound left s) = some left := openRound_setRound hopen ho
  refine ⟨fun h => ?_, fun hst he => ?_, fun h => ?_, fun hst he => ?_, fun hst => ?_, fun hst => ?_⟩
  · rw [addPause_of_open c hopen, if_neg]
    · rfl
    · rintro ⟨hst, he⟩
      rcases h with h | h | h
      · rcases hst with h' | h' <;> simp [h] at h'
      · rcases hst with h' | h' <;> simp [h] at h'
      · exact absurd (h.symm.trans he) (by decide)
  · rw [addPause_of_open c hopen, if_pos ⟨hst, he⟩, takePause_eq (r := joined) rfl]
    rfl
  · rw [removePause_of_open c hopen]
    by_cases hst : s.eqc.state = .paused
    · have hne : left.pauses.isEmpty = false := by
        rcases h with h | h
        · exact absurd hst h
        · exact h
      rw [resumeIfClear_of_paused (s := setRound left s) hst hleft, hne]
      rfl
    · rw [resumeIfClear_of_ne (s := setRound left s) hst]
      rfl
  · rw [removePause_of_open c hopen, resumeIfClear_of_paused (s := setRound left s) hst hleft, if_pos he]
    rfl
  · intro x t
    have hphase : phaseOf s.eqc.state = if s.eqc.state = .hold then .hold else .raise := by
      rcases hst with h | h <;> simp [h, phaseOf]
    refine ⟨?_, fun hfail => ?_⟩
    · rw [pauseStandbyEnded_answer data hopen, enterPaused_eq _ hr ho, hphase]
    · rw [pauseStandbyEnded_failed hopen hfail, placePauseStandby_eq hr]
  · intro rd timer x y
    refine ⟨?_, fun hfail => ?_⟩
    · have hx : openRound (setRound x s) = some x := openRound_setRound hopen ho
      have hy : openRound (setRound y s) = some y := openRound_setRound hopen ho
      have removed : removePause .lowEnergy (setRound x s) = if y.pauses.isEmpty then resumed y s else put y := by
        rw [removePause_of_open _ hx]
        exact resumeIfClear_of_paused (s := setRound y s) hst hy
      rw [refreshEnded_answer data hopen, ← removed]
      rfl
    · rw [refreshEnded_failed hopen hfail]
      rfl

end Sys2Proof.Laws
end

section
/-! SUPPORT. The end of an equalise round, handed on field by field. -/

namespace Sys2Proof.Laws

open Sys2Proof.Machine

/-! ### What every end of a round writes and releases (R10, R77, R114, R171) -/

/-- The record before the write position (R171). -/
def youngest (l : RoundLog) : Option LogRecord := l.places[l.position - 1]

theorem youngest_logAfter (r : LogRecord) (l : RoundLog) :
    youngest (logAfter r l) = some { r with sequence := (logAfter r l).sequence - 1 } := by
  simp [youngest, logAfter]

theorem logWrite_log (r : LogRecord) (s : State) : (logWrite r s).log = logAfter r s.log := by
  rw [logWrite_eq]
  rfl

/-- A held string's record after its release (R10). -/
theorem recordOf_releaseString (i j : StringNo) (m : Option BarCause) (n : Option Nat) (s : State) (b : Option BarCause)
    (h : (recordOf s i).state = .equalise b ∨ (recordOf s i).state = .water b) :
    recordOf (releaseString i m n s) j =
      if i = j then { recordOf s i with state := releasedState b m n } else recordOf s j := by
  have removed (t : State) : recordOf (removeBarred i t) j = recordOf t j := by simp [recordOf]
  have set := recordOf_modString (s := s) i j (fun r => { r with state := releasedState b m n })
  rcases h with h | h
  · simp only [releaseString, h]
    split
    · exact (removed _).trans set
    · exact set
  · simp only [releaseString, h]
    split
    · exact (removed _).trans set
    · exact set

theorem releasedState_eq (b m : Option BarCause) (n : Option Nat) :
    releasedState b m n =
      match m, b with
      | some c, _ => .barred c
      | none, some c => .barred c
      | none, none => if 0 < n.getD 0 then .settle (n.getD 0) else .float := by
  unfold releasedState
  cases m with
  | some c => rfl
  | none =>
    cases b with
    | some c => rfl
    | none =>
      cases n with
      | none => rfl
      | some k => cases k <;> simp

/-- A release that marks nothing removes no entry. -/
theorem releaseString_queue (i : StringNo) (n : Option Nat) (s : State) : (releaseString i none n s).queue = s.queue := by
  unfold releaseString
  dsimp only
  repeat' split
  all_goals first
    | rfl
    | simp_all

theorem pending_raise (n : Notice) (p : Port) (s : State) : ((raise n s).ports.get p).pending.getLsbD n.bit = true := by
  rw [raise_get]
  simp only [PortUnit.addPending, BitVec.getLsbD_or, Notice.mask]
  cases n <;> simp [Notice.bit]

theorem pending_raise_of (n m : Notice) (p : Port) (s : State) (h : (s.ports.get p).pending.getLsbD n.bit = true) :
    ((raise m s).ports.get p).pending.getLsbD n.bit = true := by
  rw [raise_get]
  simp only [PortUnit.addPending, BitVec.getLsbD_or, h, Bool.true_or]

/-! ### The end of an equalise round (R8, R77) -/

theorem completes_iff (o : EqOutcome) : o.completes = decide (o = .finished ∨ o = .timed) := by
  cases o <;> simp [EqOutcome.completes]

/-- The string's record when a round has ended, before its release (R8). -/
theorem recordOf_takeEqualiseOutcome (i j : StringNo) (o : EqOutcome) (s : State) :
    recordOf (takeEqualiseOutcome i o s) j =
      if i = j then
        { recordOf s i with
          lastEqualise := some o
          hoursEqualise := if o.completes then some 0 else (recordOf s i).hoursEqualise
          throughput := if o.completes then 0 else (recordOf s i).throughput
          remainder := if o.completes then 0 else (recordOf s i).remainder }
      else recordOf s j := by
  unfold takeEqualiseOutcome
  rw [recordOf_modString]
  cases o.completes <;> rfl

/-- The state in which the history is taken and the string released (R77 items 1 and 2). -/
def roundReleased (r : Round) (o : EqOutcome) (mark : Bool) (s : State) : State :=
  releaseString r.string (if mark then some .detachFailed else none)
    (if o.completes then some r.recipe.settleTime else none) (takeEqualiseOutcome r.string o s)

theorem recordOf_roundReleased {s : State} {r : Round} {b : Option BarCause} (o : EqOutcome) (mark : Bool) (j : StringNo)
    (h : (recordOf s r.string).state = .equalise b) :
    recordOf (roundReleased r o mark s) j =
      if r.string = j then
        { recordOf s r.string with
          state := releasedState b (if mark then some .detachFailed else none)
            (if o.completes then some r.recipe.settleTime else none)
          lastEqualise := some o
          hoursEqualise := if o.completes then some 0 else (recordOf s r.string).hoursEqualise
          throughput := if o.completes then 0 else (recordOf s r.string).throughput
          remainder := if o.completes then 0 else (recordOf s r.string).remainder }
      else recordOf s j := by
  have held : (recordOf (takeEqualiseOutcome r.string o s) r.string).state = .equalise b := by
    rw [recordOf_takeEqualiseOutcome, if_pos rfl]
    exact h
  rw [roundReleased, recordOf_releaseString _ _ _ _ _ b (.inl held), recordOf_takeEqualiseOutcome,
    recordOf_takeEqualiseOutcome]
  by_cases hj : r.string = j
  · simp only [if_pos hj, if_true]
  · simp only [if_neg hj]

theorem roundReleased_frame (r : Round) (o : EqOutcome) (mark : Bool) (s : State) :
    (roundReleased r o mark s).eqc = s.eqc ∧ (roundReleased r o mark s).settings = s.settings := by
  simp [roundReleased]

theorem handOnRound_strings (r : Round) (o : EqOutcome) (mark toFault : Bool) (s : State) :
    (handOnRound r o mark toFault s).strings = (roundReleased r o mark s).strings := by
  simp only [handOnRound]
  split <;> simp [roundReleased]

/-- The dose of R100, for the record as the release leaves it. -/
theorem computedDose_roundReleased {s : State} {r : Round} {b : Option BarCause} (o : EqOutcome) (mark : Bool)
    (h : (recordOf s r.string).state = .equalise b) :
    computedDose (roundReleased r o mark s) r = computedDose s r := by
  unfold computedDose
  rw [recordOf_roundReleased o mark r.string h, (roundReleased_frame r o mark s).2]
  simp

theorem handOnRound_eqc (r : Round) (o : EqOutcome) (mark toFault : Bool) (s : State) :
    (handOnRound r o mark toFault s).eqc =
      { s.eqc with round := none, state := if toFault then .fault else .idle } := by
  simp only [handOnRound]
  cases toFault <;> simp [enterEqcFault, setEqcState]

theorem handOnRound_pending (r : Round) (o : EqOutcome) (mark toFault : Bool) (s : State) (p : Port) :
    ((handOnRound r o mark toFault s).ports.get p).pending.getLsbD Notice.roundEnded.bit = true
      ∧ (toFault = true →
        ((handOnRound r o mark toFault s).ports.get p).pending.getLsbD Notice.channelFault.bit = true) := by
  simp only [handOnRound]
  cases toFault
  · exact ⟨pending_raise _ p _, fun h => by cases h⟩
  · exact ⟨pending_raise_of _ _ p _ (pending_raise _ p _), fun _ => pending_raise _ p _⟩

/-- The record of a round's end: the round as the dose leaves it, in the state of the release (R77 items 3 and 4). -/
theorem handOnRound_record (r : Round) (o : EqOutcome) (mark toFault : Bool) (s : State) :
    let u := handDose r o (roundReleased r o mark s)
    let t := handOnRound r o mark toFault s
    youngest t.log = some { equaliseRecord u.2 o u.1 with sequence := t.log.sequence - 1 } := by
  intro u t
  have hlog : t.log = logAfter (equaliseRecord u.2 o u.1) u.1.log := by
    simp only [t, handOnRound]
    cases toFault
    · exact logWrite_log _ _
    · simp [logWrite_log]
      rfl
  rw [hlog]
  exact youngest_logAfter _ _

theorem handOnRound_queue (r : Round) (o : EqOutcome) (mark toFault : Bool) (s : State) :
    (handOnRound r o mark toFault s).queue = (handDose r o (roundReleased r o mark s)).1.queue := by
  simp only [handOnRound]
  cases toFault <;> simp <;> rfl

theorem handDose_queue (r : Round) (o : EqOutcome) (u : State) :
    (handDose r o u).1.queue =
      if o.completes ∧ u.settings.dmin ≤ computedDose u r ∧ 1 ≤ computedDose u r then
        (post (followOn r.string (computedDose u r)) u).1.queue
      else u.queue := by
  unfold handDose dosePosts
  cases o.completes
  · simp
  · by_cases h : u.settings.dmin ≤ computedDose u r ∧ 1 ≤ computedDose u r
    · obtain ⟨h1, h2⟩ := h
      simp [h1, h2]
    · simp only [if_true, true_and]
      rw [if_neg h, if_neg (by simpa using h)]

/-- The figures of a record whose round has the dose given, or none (Table 11.2). -/
theorem equaliseRecord_figures (r : Round) (o : EqOutcome) (u : State) (c : Bool) (n : Nat) :
    let x := equaliseRecord { r with acct := { r.acct with dose := if c then some n else none } } o u
    (x.charge, x.overcharge, x.energy, x.peak, x.spread, x.dose, x.belowMinimum) =
      (clampTo (-32768) 32767 (Int.tdiv r.acct.charge 3600), min (r.acct.overcharge / 3600) 65535,
        min (r.acct.energy / 36000000) 65535, r.acct.peak.getD 0, (recordOf u r.string).spread,
        if c then n else 0, c && decide (n < u.settings.dmin)) := by
  cases c <;>
    simp [equaliseRecord, sat16, sat16i, chargeReported, overchargeReported, energyReported]

/-- Settles O23: each field of the state is taken from the step of R77 that writes it. -/
theorem equaliseRoundIsHandedOn : Obligations.EqualiseRoundIsHandedOn := by
  intro s mark toFault r hr b hst o ho
  have hend : endRound mark toFault s = handOnRound r o mark toFault s := by
    simp [endRound, decidedRound, hr, ho]
  intro completed old t dose
  have hdose : computedDose (roundReleased r o mark s) r = dose := computedDose_roundReleased o mark hst
  have hcompl : o.completes = completed := completes_iff o
  have hset := (roundReleased_frame r o mark s).2
  have hrec (j : StringNo) : recordOf t j = recordOf (roundReleased r o mark s) j := by
    simp only [t, hend, recordOf, handOnRound_strings]
  have hlast := handOnRound_record r o mark toFault s
  rw [← hend] at hlast
  have hspread : (recordOf (handDose r o (roundReleased r o mark s)).1 r.string).spread = old.spread := by
    have : recordOf (handDose r o (roundReleased r o mark s)).1 r.string = recordOf (roundReleased r o mark s) r.string := by
      simp [recordOf]
    rw [this, recordOf_roundReleased o mark r.string hst, if_pos rfl]
    rfl
  have hnum : (handDose r o (roundReleased r o mark s)).2 =
      { r with acct := { r.acct with dose := if completed then some dose else none } } := by
    unfold handDose
    rw [hcompl, hdose]
    cases completed <;> rfl
  have hdset : (handDose r o (roundReleased r o mark s)).1.settings = s.settings := by simp [hset]
  refine ⟨?_, fun i hi => ?_, ?_, fun p => ?_, ?_, ?_, ?_, ?_⟩
  · rw [hrec, recordOf_roundReleased o mark r.string hst, if_pos rfl, hcompl, releasedState_eq]
    cases mark <;> cases b <;> cases completed <;> simp [old]
  · rw [hrec, recordOf_roundReleased o mark i hst, if_neg hi.symm]
  · exact (congrArg State.eqc hend).trans (handOnRound_eqc r o mark toFault s)
  · simp only [t, hend]
    exact handOnRound_pending r o mark toFault s p
  · change (youngest t.log).map _ = _
    rw [hlast, hnum]
    rfl
  · change (youngest t.log).map _ = _
    rw [hlast, hnum]
    exact congrArg some ((equaliseRecord_figures r o _ completed dose).trans (by rw [hspread, hdset]))
  · have hq : t.queue = (handDose r o (roundReleased r o mark s)).1.queue :=
      (congrArg State.queue hend).trans (handOnRound_queue r o mark toFault s)
    rw [hq, handDose_queue, hdose, hcompl, hset]
    have hu : roundReleased r o mark s = releaseString r.string (if mark then some .detachFailed else none)
        (if completed then some r.recipe.settleTime else none) (takeEqualiseOutcome r.string o s) := by
      rw [roundReleased, hcompl]
    rw [hu]
    rfl
  · simp [t]

end Sys2Proof.Laws
end

section
/-! SUPPORT. Charge accounting: integration, verdict and plateau. -/

namespace Sys2Proof.Laws

open Sys2Proof.Machine

/-! ### Integration (R94, R95) -/

/-- The figures of an accounting that integration moves, and the setpoint held. -/
def figures (a : Accounting) : Int × Nat × Nat × Option Reading × Option Int × Option Setpoint :=
  (a.charge, a.overcharge, a.energy, a.lastFresh, a.peak, a.held)

theorem figures_feedWindow (x : Option Int) (t : Nat) (a : Accounting) : figures (feedWindow x t a) = figures a := by
  unfold feedWindow
  dsimp only
  repeat' split
  all_goals rfl

theorem figures_closeWindow (rc : Recipe) (n : Nat) (b : Bool) (a : Accounting) :
    figures (closeWindow rc n b a) = figures a := by
  unfold closeWindow judgeWindow startWindow
  repeat' split
  all_goals rfl

theorem figures_answeredPeriod (s : State) (r : Round) (ph : Phase) (rd : Reading) :
    figures (answeredPeriod s r ph rd).1 =
      figures (updatePeak (freshTemp s r.string)
        (integrate rd r.timer.length ph { r.acct with held := some (setpointAt s r rd.vs), lastFresh := some rd })) := by
  unfold answeredPeriod plateauStage
  dsimp only
  split
  · rw [figures_closeWindow, figures_feedWindow]
  · rfl

theorem figures_heldPeriod (s : State) (r : Round) (ph : Phase) :
    figures (heldPeriod s r ph) =
      figures (integrate (r.acct.lastFresh.getD { vs := 0, is := 0 }) r.timer.length ph
        { r.acct with held := some (setpointAt s r (r.acct.lastFresh.getD { vs := 0, is := 0 }).vs) }) := by
  unfold heldPeriod
  dsimp only
  split
  · rw [figures_closeWindow, figures_feedWindow]
  · rfl

/-- The peak after a fresh temperature is the greater of the two; a stale one leaves it (R97). -/
theorem figures_updatePeak (fresh : Option Int) (a : Accounting) :
    figures (updatePeak fresh a) =
      (a.charge, a.overcharge, a.energy, a.lastFresh,
        (match fresh with | some t => some (max t (a.peak.getD t)) | none => a.peak), a.held) := by
  unfold updatePeak
  cases fresh with
  | none => rfl
  | some t =>
    cases hp : a.peak with
    | none => simp [figures]
    | some p =>
      dsimp only
      split
      · have : max t p = t := by omega
        simp [figures, this]
      · have : max t p = p := by omega
        simp [figures, hp, this]

theorem freshTemp_eq (s : State) (i : StringNo) :
    freshTemp s i =
      if (recordOf s i).age ≤ 3 * s.settings.sweepInterval then some (recordOf s i).temperature else none := by
  simp [freshTemp, tempFresh]

/-- A plateau count is fed by windows closed at answered periods alone (R98). -/
theorem heldPeriod_plateau (s : State) (r : Round) (ph : Phase) :
    (heldPeriod s r ph).plateau = r.acct.plateau ∧ (heldPeriod s r ph).prevMin = r.acct.prevMin := by
  unfold heldPeriod closeWindow feedWindow startWindow
  dsimp only
  repeat' split
  all_goals exact ⟨rfl, rfl⟩

/-- Settles O27: the figures of a period are those of its integration, and the window moves none of them. -/
theorem periodIsIntegrated : Obligations.PeriodIsIntegrated := by
  intro s r ph rd old t a h add
  have ha := (figures_answeredPeriod s r ph rd).trans (figures_updatePeak _ _)
  have hh := figures_heldPeriod s r ph
  simp only [figures, integrate, Prod.mk.injEq] at ha hh
  obtain ⟨ha1, ha2, ha3, ha4, ha5, ha6⟩ := ha
  obtain ⟨hh1, hh2, hh3, hh4, hh5, hh6⟩ := hh
  refine ⟨⟨ha1, ha2, ha3⟩, ha4, ha6, ?_, ⟨hh1, hh2, hh3⟩, hh4, hh5, hh6, (heldPeriod_plateau s r ph).1⟩
  rw [ha5, freshTemp_eq]
  by_cases hage : (recordOf s r.string).age ≤ 3 * s.settings.sweepInterval
  · rw [if_pos hage, if_pos hage]
  · rw [if_neg hage, if_neg hage]

/-! ### The verdict (R97) -/

/-- Settles O28: of a period in RAISE that reaches the band only LOW ENERGY and HOLD are left, so the two chains agree. -/
theorem verdictIsTheFirstCheck : Obligations.VerdictIsTheFirstCheck := by
  intro s r ph rd old a sp low reached
  change verdictOf r.recipe ph (freshTemp s r.string) sp rd.vs r.raiseElapsed r.holdElapsed a = _
  have hreach : reachesHold r.recipe ph rd.vs sp.target = reached := by
    simp [reachesHold, reached]
  have hlow : sp.low r.recipe = low := rfl
  have hraise : reached = true → ph = .raise := fun h => by
    simp only [reached, Bool.and_eq_true, decide_eq_true_eq] at h
    exact h.1
  by_cases hage : old.age ≤ 3 * s.settings.sweepInterval
  · have hf : freshTemp s r.string = some old.temperature := by rw [freshTemp_eq, if_pos hage]
    simp only [verdictOf, maxHoldSeconds, hf, hreach, hlow, hage, true_and, decide_eq_true_eq, Config.secondsTop]
    cases hr : reached
    · simp
    · cases low <;> simp [hraise hr]
  · have hf : freshTemp s r.string = none := by rw [freshTemp_eq, if_neg hage]
    simp only [verdictOf, maxHoldSeconds, hf, hreach, hlow, hage, false_and, Config.secondsTop]
    cases hr : reached
    · simp
    · cases low <;> simp [hraise hr]

/-! ### The plateau (R98, R99) -/

theorem heldPeriod_raise (s : State) (r : Round) :
    (heldPeriod s r .raise).windowTime = r.acct.windowTime ∧ (heldPeriod s r .raise).windowMin = r.acct.windowMin
      ∧ (heldPeriod s r .raise).prevMin = r.acct.prevMin ∧ (heldPeriod s r .raise).plateau = r.acct.plateau :=
  ⟨rfl, rfl, rfl, rfl⟩

/-- The window of an accounting with its judgement so far. -/
def windowOf (a : Accounting) : Nat × Option Int × Option Int × Nat := (a.windowTime, a.windowMin, a.prevMin, a.plateau)

theorem windowOf_updatePeak (fresh : Option Int) (a : Accounting) : windowOf (updatePeak fresh a) = windowOf a := by
  unfold updatePeak
  repeat' split
  all_goals rfl

/-- Stage 7 in one piece. -/
theorem plateauStage_eq (rc : Recipe) (holdElapsed t : Nat) (is : Int) (a : Accounting) :
    plateauStage rc holdElapsed is t a =
      if rc.plateauWindow * 60 ≤ min 65535 (a.windowTime + t) then
        { a with
          windowTime := 0, windowMin := none
          prevMin := some (match a.windowMin with | some m => min m is | none => is)
          plateau := match a.prevMin with
            | some m =>
              if rc.minHold * 60 ≤ holdElapsed ∧ m - (match a.windowMin with | some m => min m is | none => is) ≤ rc.plateauTolerance
              then a.plateau + 1 else 0
            | none => 0 }
      else
        { a with
          windowTime := min 65535 (a.windowTime + t)
          windowMin := some (match a.windowMin with | some m => min m is | none => is) } := by
  have fed : feedWindow (some is) t a =
      { a with
        windowTime := min 65535 (a.windowTime + t)
        windowMin := some (match a.windowMin with | some m => min m is | none => is) } := by
    unfold feedWindow
    cases hm : a.windowMin with
    | none => simp [satAdd, Config.secondsTop]
    | some m =>
      by_cases hlt : is < m
      · have : min m is = is := by omega
        simp [hlt, this, satAdd, Config.secondsTop]
      · have : min m is = m := by omega
        simp [hlt, this, satAdd, Config.secondsTop]
  rw [plateauStage, fed]
  generalize (match a.windowMin with | some m => min m is | none => is) = least
  unfold closeWindow judgeWindow startWindow
  dsimp only
  split
  · cases a.prevMin with
    | none => rfl
    | some p =>
      by_cases h1 : rc.minHold * 60 ≤ holdElapsed
      · by_cases h2 : p - least ≤ rc.plateauTolerance
        · simp [h1, h2]
        · simp [h1, h2]
      · simp [h1]
  · rfl

/-- Stage 7 looks at the window alone. -/
theorem windowOf_plateauStage (rc : Recipe) (holdElapsed t : Nat) (is : Int) (a b : Accounting) (h : windowOf a = windowOf b) :
    windowOf (plateauStage rc holdElapsed is t a) = windowOf (plateauStage rc holdElapsed is t b) := by
  simp only [windowOf, Prod.mk.injEq] at h
  obtain ⟨h1, h2, h3, h4⟩ := h
  rw [plateauStage_eq, plateauStage_eq, h1, h2, h3, h4]
  split <;> rfl

theorem closeWindow_open {rc : Recipe} {n : Nat} {b : Bool} {a : Accounting} (h : a.windowTime < rc.plateauWindow * 60) :
    closeWindow rc n b a = a := if_neg (Nat.not_le.mpr h)

/-- A window that closes at a held period is dropped (R98). -/
theorem closeWindow_held {rc : Recipe} {n : Nat} {a : Accounting} (h : rc.plateauWindow * 60 ≤ a.windowTime) :
    closeWindow rc n false a = startWindow a := if_pos h

/-- Settles O29: a held period in HOLD closes its window without a minimum, an answered one runs stage 7. -/
theorem plateauIsJudged : Obligations.PlateauIsJudged := by
  refine ⟨fun s r rd => ?_, fun rc holdElapsed t is a => ?_⟩
  · intro joined kept window h
    have hold : h = closeWindow r.recipe r.holdElapsed false (feedWindow none r.timer.length
        (integrate (r.acct.lastFresh.getD { vs := 0, is := 0 }) r.timer.length .hold
          { r.acct with held := some (setpointAt s r (r.acct.lastFresh.getD { vs := 0, is := 0 }).vs) })) := rfl
    refine ⟨heldPeriod_plateau s r .hold, fun hlt => ?_, fun hle => ?_, rfl, ?_, ?_⟩
    · rw [hold, closeWindow_open (by exact hlt)]
      exact ⟨rfl, rfl⟩
    · rw [hold, closeWindow_held (by exact hle)]
      exact ⟨rfl, rfl⟩
    · exact windowOf_updatePeak _ _
    · exact windowOf_plateauStage _ _ _ _ _ _ (windowOf_updatePeak _ _)
  · intro joined least b
    refine ⟨fun hlt => ?_, fun hle => ?_⟩
    · exact (plateauStage_eq rc holdElapsed t is a).trans (if_neg (Nat.not_le.mpr hlt))
    · exact (plateauStage_eq rc holdElapsed t is a).trans (if_pos hle)

end Sys2Proof.Laws
end

section
/-! SUPPORT. A dose open or decided, its end sequence, and what its transactions bring. -/

namespace Sys2Proof.Laws

open Sys2Proof.Machine

/-! ### The dose context, open or not, and the end sequence (R110, R111) -/

section
variable {s : State} {d : Dose} {o : WaterOutcome}

theorem openDose_of_state (hd : s.wac.dose = some d) (ho : d.outcome = none)
    (hst : s.wac.state = .open ∨ s.wac.state = .pump ∨ s.wac.state = .dose) : openDose s = some d := by
  rcases hst with h | h | h <;> simp [openDose, h, hd, ho]

theorem openDose_of_decided (hd : s.wac.dose = some d) (ho : d.outcome.isSome) : openDose s = none := by
  have : d.outcome ≠ none := Option.isSome_iff_ne_none.mp ho
  unfold openDose
  rw [hd]
  cases s.wac.state <;> simp [this]

theorem openDose_of_shut (h : ¬ (s.wac.state = .open ∨ s.wac.state = .pump ∨ s.wac.state = .dose)) :
    openDose s = none := by
  unfold openDose
  split
  · rename_i hst _
    exact absurd (.inl hst) h
  · rename_i hst _
    exact absurd (.inr (.inl hst)) h
  · rename_i hst _
    exact absurd (.inr (.inr hst)) h
  · rfl

/-- The end sequence, in one piece (R111). -/
theorem endSequence_eq (hd : s.wac.dose = some d) : endSequence s = endBegun d s := by
  unfold endSequence endBegun
  rw [hd]
  dsimp only
  by_cases h : d.pumpOnSent ∨ d.faultAtEnd
  · rw [if_pos h, if_pos (by simpa using h)]
    rfl
  · rw [if_neg h, if_neg (by simpa using h)]
    rfl

end

/-- Settles O30: a dose that is not open is left, and one that is open is stopped. -/
theorem waterOutcomeIsDecidedOnce : Obligations.WaterOutcomeIsDecidedOnce := by
  intro s o d hd
  refine ⟨fun h => ?_, fun ho hst => ?_⟩
  · have : openDose s = none := by
      rcases h with h | h
      · exact openDose_of_decided hd h
      · exact openDose_of_shut h
    simp [decideWater, this]
  · have flying : waterInFlight (setDose { d with outcome := some o } s) = waterInFlight s := rfl
    simp only [decideWater, openDose_of_state hd ho hst, stopDosing, flying]
    split
    · rfl
    · exact (endSequence_eq (s := setDose { d with outcome := some o } s) rfl).trans rfl

/-! ### What the transactions of a dose bring (R106 to R108, R111 to R113) -/

/-- What a reading of the reservoir leaves of the Water Channel (R104). -/
theorem judgeReservoir_eq (n : Nat) (s : State) :
    judgeReservoir n s =
      { s with wac :=
          if s.wac.reservoirLow ∧ s.settings.reserve + 10 ≤ n then
            { s.wac with reservoir := some n, reservoirLow := false, pollTimer := none }
          else { s.wac with reservoir := some n } } := rfl

/-- Settles O31: the reading is taken, then the dose is judged as it stands with it. -/
theorem doseReadingIsJudged : Obligations.DoseReadingIsJudged := by
  intro s hst d hd
  refine ⟨fun o ho => ?_, fun reservoir delivered flow now hnow => ?_⟩
  · have held : setDose d s = s := by
      simp only [setDose, modWac, ← hd]
    rcases failed_cases ho with ⟨c, rfl⟩ | rfl | rfl | rfl
    all_goals
      simp only [dosePollEnded, hd, held]
      split
      · exact endSequence_eq hd
      · rfl
  · intro data moved d' w read
    have hres : reservoirOf data = reservoir.toNat := congrArg BitVec.toNat (octets_append reservoir)
    have hdel : deliveredOf data = delivered.toNat := congrArg BitVec.toNat (octets_append delivered)
    have hflow : flowOf data = flow := by
      have := flagAt_encFlag (octetsOfHalf reservoir ++ octetsOfHalf delivered) flow []
      rw [List.append_nil] at this
      exact this
    have htake : takeDelivered data d = d' := by
      simp only [takeDelivered, hflow, hdel, hnow]
      by_cases hm : delivered.toNat = d.delivered
      · simp [hm, d', moved, hnow]
      · simp [hm, d', moved, hnow]
    have hread : setDose d' (judgeReservoir (reservoirOf data) s) = read := by
      rw [hres]
      rfl
    have hout : d'.outcome = d.outcome := rfl
    have hverdict : doseVerdict s.settings.noFlowTime d' =
        if d.limit ≤ delivered.toNat then some .delivered
        else if s.settings.noFlowTime ≤ now - d'.lastChange.getD 0 then some .full else none := by
      have : d'.elapsed.getD 0 = now := by simp [d', hnow]
      rw [doseVerdict, this]
    have hset : (judgeReservoir (reservoirOf data) s).settings = s.settings := rfl
    simp only [dosePollEnded, hd, htake, hout, hread, hset, hverdict]
    split
    · exact endSequence_eq (s := read) rfl
    · split
      · rename_i h
        split at h
        · cases h
          rename_i hlim
          rw [if_pos hlim]
        · split at h
          · cases h
            rename_i hlim hfull
            rw [if_neg hlim, if_pos hfull]
          · cases h
      · rename_i h
        split at h
        · cases h
        · split at h
          · cases h
          · rename_i hlim hfull
            rw [if_neg hlim, if_neg hfull, hres]
            rfl

/-- Settles O32: each transaction by its outcome, on a dose decided or not. -/
theorem waterTransactionsEnd : Obligations.WaterTransactionsEnd := by
  intro s x o d hd named pumping
  have hnamed : setValve (.names d.string true) s = named := rfl
  have hpumping : setPump .onConfirmed s = pumping := rfl
  refine ⟨fun ho => ?_, fun ho => ?_, fun ho => ?_, fun ho => ?_, fun hv => ?_, fun hv => ?_, ?_, fun hfail => ?_⟩
  · simp only [openValveEnded, hd, ho]
    rfl
  · simp only [openValveEnded, hd, ho, hnamed, if_true]
    exact endSequence_eq (s := named) hd
  · simp only [pumpOnEnded, hd, ho]
    rfl
  · simp only [pumpOnEnded, hd, ho, hpumping, if_true]
    exact endSequence_eq (s := pumping) hd
  · have : pumpOffEnded (.answer x) s = closeStep d (setPump .off s) := by simp only [pumpOffEnded, hd]
    rw [this]
    exact if_pos hv
  · have hno : ¬ s.wac.valve.holds d.string = true := by simp [hv, LinkRecord.holds]
    have : pumpOffEnded (.answer x) s = closeStep d (setPump .off s) := by simp only [pumpOffEnded, hd]
    rw [this]
    exact if_neg hno
  · have : closeValveEnded (.answer x) s = endDose .released d.faultAtEnd (setValve .empty s) := by
      simp only [closeValveEnded, hd]
    rw [this]
    rfl
  · intro cause
    have hcause : openFailure o = cause := by
      rcases failed_cases hfail with ⟨c, rfl⟩ | rfl | rfl | rfl <;> rfl
    refine ⟨?_, ?_, fun hp => ?_, fun hp hv => ?_, fun hp hv => ?_, ?_⟩
    · have : openValveEnded d.string o s =
          endSequence (setDose { d with outcome := some (d.outcome.getD (.aborted (openFailure o))) } s) := by
        rcases failed_cases hfail with ⟨c, rfl⟩ | rfl | rfl | rfl <;> simp only [openValveEnded, hd]
      rw [this, hcause, endSequence_eq rfl]
      rfl
    · have : pumpOnEnded o s =
          endSequence (setDose { d with outcome := some (d.outcome.getD (.aborted .pumpLost)) } s) := by
        rcases failed_cases hfail with ⟨c, rfl⟩ | rfl | rfl | rfl <;> simp only [pumpOnEnded, hd]
      rw [this, endSequence_eq rfl]
      rfl
    · have : pumpOffEnded o s = endDose .kept true (setPump .onUnconfirmed s) := by
        rcases failed_cases hfail with ⟨c, rfl⟩ | rfl | rfl | rfl <;> simp only [pumpOffEnded, hd, if_neg hp]
      rw [this]
      rfl
    · have : pumpOffEnded o s = closeStep { d with faultAtEnd := true } (setDose { d with faultAtEnd := true } s) := by
        rcases failed_cases hfail with ⟨c, rfl⟩ | rfl | rfl | rfl <;> simp only [pumpOffEnded, hd, if_pos hp]
      rw [this]
      exact if_pos hv
    · have : pumpOffEnded o s = closeStep { d with faultAtEnd := true } (setDose { d with faultAtEnd := true } s) := by
        rcases failed_cases hfail with ⟨c, rfl⟩ | rfl | rfl | rfl <;> simp only [pumpOffEnded, hd, if_pos hp]
      have hno : ¬ s.wac.valve.holds d.string = true := by simp [hv, LinkRecord.holds]
      rw [this]
      exact if_neg hno
    · have : closeValveEnded o s = endDose .closeFailed true (setValve s.wac.valve.unconfirm s) := by
        rcases failed_cases hfail with ⟨c, rfl⟩ | rfl | rfl | rfl <;> simp only [closeValveEnded, hd]
      rw [this]
      cases hv : s.wac.valve <;> rfl

end Sys2Proof.Laws
end

section
/-! SUPPORT. The end of a watering round, handed on field by field. -/

namespace Sys2Proof.Laws

open Sys2Proof.Machine

/-! ### The end of a watering round (R9, R10, R114) -/

/-- The string's record when a dose has ended, before its release (R9). -/
theorem recordOf_takeWaterOutcome (i j : StringNo) (o : WaterOutcome) (n : Nat) (s : State) :
    recordOf (takeWaterOutcome i o n s) j = if i = j then afterDose o n (recordOf s i) else recordOf s j := by
  unfold takeWaterOutcome
  rw [recordOf_modString]
  cases o <;> rfl

/-- The mark with which the string leaves the round (R114 item 2); nothing where it is kept. -/
def leaveMark : Leave → Option (Option BarCause)
  | .released => some none
  | .closeFailed => some (some .closeFailed)
  | .kept => none

/-- The state in which the history is taken and the string left (R114 items 1 and 2). -/
def doseLeft (d : Dose) (o : WaterOutcome) (leave : Leave) (s : State) : State :=
  match leaveMark leave with
  | some m => releaseString d.string m none (takeWaterOutcome d.string o d.delivered s)
  | none => takeWaterOutcome d.string o d.delivered s

theorem handOnDose_eq (d : Dose) (o : WaterOutcome) (leave : Leave) (toFault : Bool) (s : State) :
    let u := doseLeft d o leave s
    let t := modWac (fun w => { w with dose := none }) (raise .roundEnded (logWrite (waterRecord d o u) u))
    handOnDose d o leave toFault s = if toFault then enterWacFault t else enterWacIdle t := by
  cases leave <;> rfl

/-- Entry to FAULT leaves the records, the flag and the dose of the Water Channel as they are. -/
theorem enterWacFault_wac (s : State) :
    (enterWacFault s).wac.dose = s.wac.dose ∧ (enterWacFault s).wac.state = .fault
      ∧ (enterWacFault s).wac.valve = s.wac.valve ∧ (enterWacFault s).wac.pump = s.wac.pump
      ∧ (enterWacFault s).wac.reservoirLow = s.wac.reservoirLow := by
  simp only [enterWacFault]
  split <;> simp

/-- A marked end enters FAULT and an unmarked one IDLE, with the records and the flag as they were (R114 item 5). -/
theorem handOnDose_wac (d : Dose) (o : WaterOutcome) (leave : Leave) (toFault : Bool) (s : State) :
    let t := handOnDose d o leave toFault s
    t.wac.dose = none ∧ t.wac.state = (if toFault then .fault else .idle)
      ∧ t.wac.valve = s.wac.valve ∧ t.wac.pump = s.wac.pump ∧ t.wac.reservoirLow = s.wac.reservoirLow := by
  intro t
  have ht : t = _ := handOnDose_eq d o leave toFault s
  rw [ht]
  have hwac : (doseLeft d o leave s).wac = s.wac := by cases leave <;> simp [doseLeft, leaveMark]
  cases toFault
  · simp [enterWacIdle, hwac]
  · simp [enterWacFault_wac, hwac]

theorem handOnDose_pending (d : Dose) (o : WaterOutcome) (leave : Leave) (toFault : Bool) (s : State) (p : Port) :
    ((handOnDose d o leave toFault s).ports.get p).pending.getLsbD Notice.roundEnded.bit = true
      ∧ (toFault = true →
        ((handOnDose d o leave toFault s).ports.get p).pending.getLsbD Notice.channelFault.bit = true) := by
  rw [handOnDose_eq]
  have ended (t : State) : ((modWac (fun w => { w with dose := none }) (raise .roundEnded t)).ports.get p).pending.getLsbD
      Notice.roundEnded.bit = true := pending_raise _ p t
  cases toFault
  · refine ⟨?_, fun h => by cases h⟩
    rw [if_neg (by simp), (enterWacIdle_frame (s := _)).2.2.2.2.2.2.2.2.2.2.1]
    exact ended _
  · rw [if_pos rfl]
    simp only [enterWacFault]
    refine ⟨pending_raise_of _ _ p _ ?_, fun _ => pending_raise _ p _⟩
    split
    all_goals exact ended _

theorem doseLeft_frame (d : Dose) (o : WaterOutcome) (leave : Leave) (s : State) :
    let u := doseLeft d o leave s
    u.eqc = s.eqc ∧ u.plant = s.plant ∧ u.demand = s.demand ∧ u.sweep = s.sweep := by
  cases leave <;> simp [doseLeft, leaveMark]

theorem recordOf_doseLeft {s : State} {d : Dose} {b : Option BarCause} (o : WaterOutcome) (leave : Leave) (j : StringNo)
    (h : (recordOf s d.string).state = .water b) :
    recordOf (doseLeft d o leave s) j =
      if d.string = j then
        { afterDose o d.delivered (recordOf s d.string) with
          state := match leaveMark leave with
            | some m => releasedState b m none
            | none => .water b }
      else recordOf s j := by
  have history := recordOf_takeWaterOutcome d.string j o d.delivered s
  have held : (recordOf (takeWaterOutcome d.string o d.delivered s) d.string).state = .water b := by
    rw [recordOf_takeWaterOutcome, if_pos rfl]
    exact h
  have released (m : Option BarCause) : recordOf (releaseString d.string m none (takeWaterOutcome d.string o d.delivered s)) j =
      if d.string = j then
        { afterDose o d.delivered (recordOf s d.string) with state := releasedState b m none } else recordOf s j := by
    rw [recordOf_releaseString _ _ _ _ _ b (.inr held), history, recordOf_takeWaterOutcome, if_pos rfl]
    by_cases hj : d.string = j
    · simp only [if_pos hj]
    · simp only [if_neg hj]
  cases leave
  · exact released none
  · exact released (some .closeFailed)
  · refine history.trans ?_
    by_cases hj : d.string = j
    · simp only [if_pos hj, leaveMark, ← h]
      rfl
    · simp only [if_neg hj]

/-- What a watering round's end leaves, whatever way the string left it. -/
theorem doseIsOver_endDose {s : State} {d : Dose} {b : Option BarCause} {o : WaterOutcome} (leave : Leave) (toFault : Bool)
    (hd : s.wac.dose = some d) (h : (recordOf s d.string).state = .water b) (ho : d.outcome = some o) :
    doseIsOver toFault d o s (endDose leave toFault s)
      ∧ recordOf (endDose leave toFault s) d.string = recordOf (doseLeft d o leave s) d.string
      ∧ (endDose leave toFault s).queue = (doseLeft d o leave s).queue := by
  have hend : endDose leave toFault s = handOnDose d o leave toFault s := by
    simp [endDose, decidedDose, hd, ho]
  obtain ⟨heqc, hplant, hdemand, hsweep⟩ := doseLeft_frame d o leave s
  have hrec (j : StringNo) : recordOf (endDose leave toFault s) j = recordOf (doseLeft d o leave s) j := by
    rw [hend, handOnDose_eq]
    cases toFault <;> simp [recordOf]
  have hlog : (endDose leave toFault s).log =
      logAfter (waterRecord d o (doseLeft d o leave s)) (doseLeft d o leave s).log := by
    rw [hend, handOnDose_eq]
    cases toFault <;> simp [logWrite_log]
  have hlast : youngest (endDose leave toFault s).log = some { waterRecord d o (doseLeft d o leave s) with
      sequence := (endDose leave toFault s).log.sequence - 1 } := by
    rw [hlog]
    exact youngest_logAfter _ _
  have hspread : (recordOf (doseLeft d o leave s) d.string).spread = (recordOf s d.string).spread := by
    rw [recordOf_doseLeft o leave d.string h, if_pos rfl]
    rfl
  obtain ⟨hdose, hstate, hvalve, hpump, hlow⟩ := handOnDose_wac d o leave toFault s
  refine ⟨⟨hend ▸ hdose, hend ▸ hstate, hend ▸ hvalve, hend ▸ hpump, hend ▸ hlow, fun p => ?_, ?_, ?_, fun i hi => ?_, ?_, ?_, ?_, ?_⟩,
    hrec _, ?_⟩
  · rw [hend]
    exact handOnDose_pending d o leave toFault s p
  · change (youngest _).map _ = _
    rw [hlast]
    rfl
  · change (youngest _).map _ = _
    rw [hlast]
    exact congrArg some (by simp [waterRecord, hspread])
  · rw [hrec, recordOf_doseLeft o leave i h, if_neg hi.symm]
  all_goals
    rw [hend, handOnDose_eq]
    cases toFault <;> simp [heqc, hplant, hdemand, hsweep]

/-- Settles O33: each field of the state is taken from the step of R114 that writes it. -/
theorem waterRoundIsHandedOn : Obligations.WaterRoundIsHandedOn := by
  intro s toFault d hd b h o ho history
  obtain ⟨hreleased, hrec1, hq1⟩ := doseIsOver_endDose .released toFault hd h ho
  obtain ⟨hkept, hrec2, hq2⟩ := doseIsOver_endDose .kept toFault hd h ho
  obtain ⟨hclosed, hrec3, -⟩ := doseIsOver_endDose .closeFailed toFault hd h ho
  refine ⟨hreleased, ?_, ?_, hkept, ?_, ?_, hclosed, ?_⟩
  · rw [hrec1, recordOf_doseLeft _ _ _ h, if_pos rfl]
    cases b <;> rfl
  · rw [hq1]
    exact (releaseString_queue _ _ _).trans (by simp)
  · rw [hrec2, recordOf_doseLeft _ _ _ h, if_pos rfl]
    simp only [leaveMark, ← h]
    rfl
  · rw [hq2]
    simp [doseLeft, leaveMark]
  · rw [hrec3, recordOf_doseLeft _ _ _ h, if_pos rfl]
    cases b <;> rfl

end Sys2Proof.Laws
end

section
/-! SUPPORT. The timers of both channels, and the end of a SET POINT. -/

namespace Sys2Proof.Laws

open Sys2Proof.Machine

/-! ### The timers of both channels (R67, R71, R73, R104, R108, R109) -/

theorem ended_iff (t : PeriodTimer) : t.ended = (t.running && decide (t.length ≤ t.count)) := rfl

theorem takePeriodExpiry_of_open {s : State} {r : Round} (hst : s.eqc.state = .raise ∨ s.eqc.state = .hold)
    (h : openRound s = some r) : takePeriodExpiry s = if r.timer.ended then periodExpires r s else s := by
  unfold takePeriodExpiry
  rw [h]
  rcases hst with h | h <;> rw [h]

/-- The period's end claims SET POINT with the setpoint held (R67). -/
theorem periodExpires_eq (r : Round) (s : State) :
    periodExpires r s =
      let x : Round := { r with timer := { r.timer with running := false } }
      { s with
        eqc := { s.eqc with round := some (match s.eqc.state with
          | .hold => { x with holdElapsed := min 65535 (r.holdElapsed + r.timer.length) }
          | _ => { x with raiseElapsed := min 65535 (r.raiseElapsed + r.timer.length) }) }
        loop := { s.loop with claimEqualise := match r.acct.held with
          | some sp => some (.setPoint sp)
          | none => s.loop.claimEqualise } } := by
  unfold periodExpires
  cases s.eqc.state <;> cases hh : r.acct.held <;> simp only [hh] <;> rfl

/-- Settles O34: each event by its condition; the commands are these functions of the state. -/
theorem channelTimersAct : Obligations.ChannelTimersAct := by
  refine ⟨⟨fun s r hr ho => ?_, fun s hshut => ?_⟩, fun s d hd => ⟨?_, ?_⟩, fun s hd => ⟨?_, ?_⟩, fun s data o => ?_,
    fun s => ?_⟩
  · intro ended stopped claimed
    refine ⟨fun hst => ?_, fun hst => ?_, fun hst => ?_, fun hst p hp => ?_⟩
    · have hopen := openRound_of_state hr ho (.inr (.inl hst))
      change Host.Outcome.next (takePeriodExpiry s) = _
      rw [takePeriodExpiry_of_open (.inl hst) hopen, periodExpires_eq, hst]
      rfl
    · have hopen := openRound_of_state hr ho (.inr (.inr (.inl hst)))
      change Host.Outcome.next (takePeriodExpiry s) = _
      rw [takePeriodExpiry_of_open (.inr hst) hopen, periodExpires_eq, hst]
      rfl
    · have hopen := openRound_of_state hr ho (.inr (.inr (.inr hst)))
      change Host.Outcome.next (takeStandbyRefresh s) = _
      simp only [takeStandbyRefresh, hst, hopen, stopTimer_eq hr]
      rfl
    · change Host.Outcome.next (takePauseExpired s) = _
      simp [takePauseExpired, hr, hp]
  · refine ⟨?_, ?_, ?_⟩
    · change Host.Outcome.next (takePeriodExpiry s) = _
      unfold takePeriodExpiry
      rw [hshut]
      cases s.eqc.state <;> rfl
    · change Host.Outcome.next (takeStandbyRefresh s) = _
      unfold takeStandbyRefresh
      rw [hshut]
      cases s.eqc.state <;> rfl
    · change Host.Outcome.next (takePauseExpired s) = _
      unfold takePauseExpired
      rw [decideEqualise_of_closed hshut]
      split <;> simp
  · change Host.Outcome.next (takeDosePoll s) = _
    have hpoll : takeDosePoll s = if s.wac.state = .dose ∧ 2 ≤ d.pollTimer.getD 0 then
        claimWater .dosePoll (setDose { d with pollTimer := none } s) else s := by
      unfold takeDosePoll
      rw [hd]
      by_cases hst : s.wac.state = .dose
      · rw [hst]
        dsimp only
        cases hp : d.pollTimer with
        | none => exact (if_neg (by simp)).symm
        | some n => exact if_congr (by simp [Config.dosePollInterval]) rfl rfl
      · rw [if_neg (mt And.left hst)]
        cases h : s.wac.state <;> simp_all
    rw [hpoll]
    rfl
  · change Host.Outcome.next (takeMaximumDose s) = _
    simp only [takeMaximumDose, hd]
  · change Host.Outcome.next (takeDosePoll s) = _
    simp [takeDosePoll, hd]
  · change Host.Outcome.next (takeMaximumDose s) = _
    simp only [takeMaximumDose, hd]
  · intro reading cleared restarted
    refine ⟨?_, fun hfail => ?_⟩
    · have hpoll : reservoirPollEnded (.answer data) s =
          modWac (fun w => if w.state = .idle ∧ w.reservoirLow then { w with pollTimer := some 0 } else w)
            (judgeReservoir reading s) := rfl
      rw [hpoll, judgeReservoir_eq]
      by_cases hclear : s.wac.reservoirLow ∧ s.settings.reserve + 10 ≤ reading
      · obtain ⟨hlow, hr⟩ := hclear
        simp [cleared, hlow, hr, modWac]
      · have hc : cleared = false := by simpa [cleared] using hclear
        simp only [if_neg hclear, modWac, hc, restarted]
        by_cases h : s.wac.state = .idle ∧ s.wac.reservoirLow
        · simp [h]
        · simp only [if_neg h]
          simp
    · have : reservoirPollEnded o s =
          modWac (fun w => if w.state = .idle ∧ w.reservoirLow then { w with pollTimer := some 0 } else w) s := by
        rcases failed_cases hfail with ⟨c, rfl⟩ | rfl | rfl | rfl <;> rfl
      rw [this]
      simp only [modWac, restarted]
      by_cases h : s.wac.state = .idle ∧ s.wac.reservoirLow
      · simp only [if_pos h]
      · simp only [if_neg h]
  · change Host.Outcome.next (takeReservoirPoll s) = _
    have hpoll : takeReservoirPoll s = if 60 ≤ s.wac.pollTimer.getD 0 ∧ s.wac.state = .idle ∧ s.wac.reservoirLow
        ∧ s.loop.claimWater = none ∧ waterInFlight s = none then
        claimWater .reservoirPoll (modWac (fun w => { w with pollTimer := none }) s) else s := by
      unfold takeReservoirPoll
      cases s.wac.pollTimer with
      | none => simp
      | some n => rfl
    rw [hpoll]
    rfl

/-! ### The end of a SET POINT (R68, R69, R75) -/

section
variable {s : State} {r : Round}

/-- The next period, or the pause's STANDBY, of an open round in RAISE or HOLD (R67, R70). -/
theorem nextPeriod_eq (hst : s.eqc.state = .raise ∨ s.eqc.state = .hold) (hr : s.eqc.round = some r)
    (ho : r.outcome = none) :
    nextPeriod s =
      if r.pauses.isEmpty ∧ r.pauseOwed = false then
        { s with eqc := { s.eqc with round := some { r with
          timer := { count := 0, length := s.settings.period, running := true } } } }
      else placePauseStandby s := by
  have hopen := openRound_of_state hr ho (by rcases hst with h | h <;> simp [h])
  have hnext : nextPeriod s = if r.pauses.isEmpty && !r.pauseOwed then setRound { r with timer := startedTimer s } s
      else placePauseStandby s := by
    unfold nextPeriod
    rw [hopen]
    rcases hst with h | h <;> simp [h]
  rw [hnext]
  simp only [Bool.and_eq_true, Bool.not_eq_true']
  rfl

theorem setPointAnswered_of_open (rd : Reading) (hr : s.eqc.round = some r) (ho : r.outcome = none) :
    setPointAnswered rd s =
      let clear : Round := { r with failures := 0 }
      let v := answeredPeriod s clear (phaseOf s.eqc.state) rd
      actOnVerdict v.2 (setRound { clear with acct := v.1 } s) := by
  unfold setPointAnswered
  rw [hr]
  exact if_neg (by simp [ho])

theorem setPointAnswered_of_decided (rd : Reading) (hr : s.eqc.round = some r) (ho : r.outcome.isSome) :
    setPointAnswered rd s =
      let clear : Round := { r with failures := 0 }
      enterDetach (setRound { clear with acct := integrateOnly s clear (phaseOf s.eqc.state) rd } s) := by
  unfold setPointAnswered
  rw [hr]
  exact if_pos ho

/-- The round after a failed SET POINT: the failure counted, and a held period before the third (R69, R95). -/
def afterFailure (s : State) (r : Round) (ph : Phase) : Round :=
  let counted : Round := { r with failures := r.failures + 1 }
  if r.failures < 2 then { counted with acct := heldPeriod s counted ph } else counted

theorem setPointFailed_eq (hr : s.eqc.round = some r) :
    setPointFailed s =
      let u := setRound (afterFailure s r (phaseOf s.eqc.state)) s
      if r.outcome.isSome then enterDetach u
      else if r.failures < 2 then nextPeriod u
      else decideEqualise (.aborted .boostLost) u := by
  have third : r.failures + 1 < 3 ↔ r.failures < 2 := by omega
  unfold setPointFailed
  rw [hr]
  simp only [third]
  rfl

end

theorem updatePeak_some (t : Int) (a : Accounting) :
    updatePeak (some t) a = { a with peak := some (max t (a.peak.getD t)) } := by
  unfold updatePeak
  dsimp only
  split
  · rename_i h
    simp [h]
  · rename_i p h
    split
    · rename_i hlt
      simp [h, max_eq_left (Int.le_of_lt hlt)]
    · rename_i hge
      simp only [h, Option.getD_some, max_eq_right (Int.not_lt.mp hge)]
      rw [← h]

/-- The accounting of R94 alone, in the terms of the clause. -/
theorem integrateOnly_eq (s : State) (r : Round) (ph : Phase) (rd : Reading) :
    integrateOnly s r ph rd = integratedAlone s r ph rd := by
  unfold integrateOnly integratedAlone
  rw [freshTemp_eq]
  by_cases h : (recordOf s r.string).age ≤ 3 * s.settings.sweepInterval
  · simp only [if_pos h, updatePeak_some]
    rfl
  · simp only [if_neg h]
    rfl

/-- Settles O35: the outcome by whether the round is open and what the transaction brought. -/
theorem setPointOutcomeActs : Obligations.SetPointOutcomeActs := by
  intro s sp data o hst r hr ph rd clear a put timer again
  have hphase : phaseOf s.eqc.state = ph := by
    rcases hst with h | h <;> simp [h, phaseOf, ph]
  have next (x : Round) (hx : x.outcome = none) : nextPeriod (setRound x s) = again x :=
    nextPeriod_eq (s := setRound x s) (r := x) hst rfl hx
  refine ⟨fun ho => ?_, fun ho => ?_, fun ho => ⟨?_, ?_⟩, rfl, fun hfail => ?_⟩
  · rw [setPointAnswered_of_open rd hr ho, hphase]
    dsimp only
    match (answeredPeriod s clear ph rd).2 with
    | .continue => exact next _ ho
    | .enterHold =>
      let x : Round := { clear with
        acct := { a with plateau := 0, windowTime := 0, windowMin := none, prevMin := none } }
      refine (nextPeriod_eq (s := setEqcState .hold (setRound x s)) (r := x) (.inr rfl) rfl ho).trans ?_
      by_cases he : x.pauses.isEmpty ∧ x.pauseOwed = false
      · simp only [if_pos he]
        have : again x = put { x with timer := timer } := if_pos he
        rw [this]
        rfl
      · simp only [if_neg he]
        have : again x = placePauseStandby (put x) := if_neg he
        rw [this]
        rfl
    | .lowEnergy =>
      let x : Round := { clear with acct := a, pauses := r.pauses.put .lowEnergy true }
      refine (next x ho).trans (if_neg ?_)
      simp [x, PauseSet.put, PauseSet.isEmpty]
    | .decided out => rfl
  · intro counted
    rw [setPointFailed_eq hr, hphase]
    dsimp only
    rw [if_neg (by simp [ho])]
    by_cases hf : r.failures < 2
    · rw [if_pos hf, if_pos hf, afterFailure, if_pos hf]
      exact next _ ho
    · rw [if_neg hf, if_neg hf, afterFailure, if_neg hf]
      rfl
  · rw [setPointAnswered_of_decided rd hr ho, hphase]
    dsimp only
    rw [integrateOnly_eq]
    rfl
  · rw [setPointFailed_eq hr, hphase]
    exact if_pos ho
  · rcases failed_cases hfail with ⟨c, rfl⟩ | rfl | rfl | rfl <;> rfl

end Sys2Proof.Laws
end

section
/-! SUPPORT. The energy window, the plant status record and the maintenance hold. -/

namespace Sys2Proof.Laws

open Sys2Proof.Machine

/-! ### The energy window (R123 to R125) -/

/-- Dispatch leaves WINDOW NEEDED alone in the Window and Plant Unit. -/
theorem judge_plant (s : State) :
    (judge s).plant = { s.plant with windowNeeded := windowNeededNow (judgeChannels s) } := by
  have noted (t : State) : (judgeWindowNeeded t).plant = { t.plant with windowNeeded := windowNeededNow t } := by
    unfold judgeWindowNeeded
    dsimp only
    split <;> rfl
  rw [judge, noted]
  simp

theorem windowOctets_judge (s : State) : windowOctets (judge s).plant = windowOctets s.plant := by
  rw [judge_plant]
  rfl

/-- The window closed, with its pause cause and the judgement of dispatch (R123, R125). -/
theorem closeWindowNow_eq (s : State) :
    closeWindowNow s =
      if s.plant.windowOpen then
        judge (addPause .windowClosed { s with plant := { s.plant with windowOpen := false, remaining := 0 } })
      else s := rfl

theorem windowOctets_closeWindowNow (s : State) :
    windowOctets (closeWindowNow s).plant =
      encFlag false ++ enc2 s.plant.budget ++ enc2 (if s.plant.windowOpen then 0 else s.plant.remaining) := by
  rw [closeWindowNow_eq]
  cases h : s.plant.windowOpen
  · simp [windowOctets, h]
  · rw [if_pos rfl, windowOctets_judge]
    simp [windowOctets]

/-- Settles O36: each answer is the window's, with its octets read before dispatch. -/
theorem windowOpensAndCloses : Obligations.WindowOpensAndCloses := by
  intro s closed
  refine ⟨fun tag budget minutes h => ?_, fun tag h => ?_, ?_⟩
  · intro b m opened
    change Host.Outcome.next (arrive .energy tag (.openWindow budget minutes) s) = _
    rw [arrive_owner .energy tag _ s h (Nat.le_of_ble_eq_true rfl) rfl rfl]
    by_cases hm : minutes = 0
    · simp only [owner, answerOpenWindow, if_pos hm]
      rfl
    · simp only [owner, answerOpenWindow, if_neg hm]
      have hstate : openWindow (clampBudget budget) (clampMinutes minutes) s =
          judge (if s.plant.windowOpen then opened else removePause .windowClosed opened) := rfl
      have hoctets : windowOctets (openWindow (clampBudget budget) (clampMinutes minutes) s).plant =
          encFlag true ++ enc2 b ++ enc2 m := by
        rw [hstate, windowOctets_judge]
        split <;> simp [windowOctets, opened]
      have hclamped : clampBudget budget ≠ budget.toNat ∨ clampMinutes minutes ≠ minutes.toNat ↔
          20000 < budget.toNat ∨ 1440 < minutes.toNat := by
        simp only [clampBudget, clampMinutes, Config.budgetTop, Config.durationTop]
        omega
      rw [hoctets, hstate]
      simp only [hclamped]
      rfl
  · change Host.Outcome.next (arrive .energy tag .closeWindow s) = _
    rw [arrive_owner .energy tag _ s h (Nat.le_of_ble_eq_true rfl) rfl rfl]
    have hans : owner .energy .closeWindow s = doneWith (windowOctets (closeWindowNow s).plant) (closeWindowNow s) := rfl
    rw [hans, windowOctets_closeWindowNow, closeWindowNow_eq]
    cases s.plant.windowOpen <;> rfl
  · change Host.Outcome.next (takeWindowExpiry s) = _
    by_cases hw : s.plant.windowOpen ∧ s.plant.remaining = 0
    · rw [takeWindowExpiry, if_pos hw, if_pos hw, closeWindowNow_eq, if_pos hw.1]
    · rw [takeWindowExpiry, if_neg hw, if_neg hw]

/-! ### The plant status record and the maintenance hold (R126 to R129) -/

theorem supplyOf_eq (o : Octet) : supplyOf o = if o.toNat ≤ 1 then some (decide (o = 1)) else none := by
  revert o
  decide

theorem discharge_eq (w : PlantUnit) : (!w.discharge) = w.report.all fun r => !r.discharge := by
  unfold PlantUnit.discharge
  cases w.report <;> rfl

/-- The octets of the record after a write: dispatch, pauses and the ends of rounds leave it (R126). -/
theorem plantResults_writePlant (r : PlantReport) (s : State) :
    plantResults (writePlant r s).plant =
      encFlag r.discharge ++ enc2 r.busVoltage ++ enc2 r.load ++ enc2i r.headroom ++ enc2 0 ++ encFlag true := by
  have hp : (writePlant r s).plant.report = some r ∧ (writePlant r s).plant.age = 0 := by
    rw [writePlant, judge_plant]
    simp only [staleEnds, dischargeArises]
    split_ifs <;> simp
  simp only [plantResults, hp]

/-- Settles O37: the answer of PLANT STATUS in the terms of the clause. -/
theorem plantStatusIsWritten : Obligations.PlantStatusIsWritten := by
  intro s tag supply volts load headroom h
  have hans : exec (.plantStatus .plant tag supply volts load headroom) s =
      .next (owing .plant 0x01 tag (answerPlantStatus supply volts load headroom s).status
        (answerPlantStatus supply volts load headroom s).results (answerPlantStatus supply volts load headroom s).state) := by
    change Host.Outcome.next (arrive .plant tag (.plantStatus supply volts load headroom) s) = _
    rw [arrive_owner .plant tag _ s h (Nat.le_of_ble_eq_true rfl) rfl rfl]
    rfl
  refine ⟨fun hs => ?_, fun hs => ?_⟩
  · have : answerPlantStatus supply volts load headroom s = refuse .range s := by
      rw [answerPlantStatus, supplyOf_eq, if_neg (by omega)]
    rw [hans, this]
    rfl
  · intro v l hd written handed fresh
    have hsup : encFlag (decide (supply = 1)) = [supply] := by
      clear hans written handed fresh
      revert supply
      decide
    have : answerPlantStatus supply volts load headroom s =
        { state := writePlant (plantReportOf (supply = 1) volts load headroom) s
          status := if reportClamped volts load headroom then .doneClamped else .done
          results := [supply] ++ enc2 v.toNat ++ enc2 l.toNat ++ enc2i hd ++ enc2 0 ++ encFlag true } := by
      rw [answerPlantStatus, supplyOf_eq, if_pos hs]
      dsimp only
      rw [plantResults_writePlant, ← hsup]
      rfl
    have hstate : writePlant (plantReportOf (supply = 1) volts load headroom) s =
        judge (if s.plant.stale then removePause .stale fresh else fresh) := by
      have harises : ((plantReportOf (supply = 1) volts load headroom).discharge && !s.plant.discharge) = true ↔
          supply = 1 ∧ (s.plant.report.all fun r => !r.discharge) := by
        rw [← discharge_eq]
        simp [plantReportOf]
      have hhanded : (if (plantReportOf (supply = 1) volts load headroom).discharge && !s.plant.discharge then
          dischargeArises written else written) = handed := if_congr harises rfl rfl
      have hstale : handed.plant.stale = s.plant.stale := by
        simp only [handed]
        split <;> simp [written]
      rw [writePlant]
      change judge (staleEnds (if (plantReportOf (supply = 1) volts load headroom).discharge && !s.plant.discharge then
          dischargeArises written else written)) = _
      rw [hhanded, staleEnds, hstale]
      rfl
    have hclamped : reportClamped volts load headroom = true ↔ ¬ (v = volts.toInt ∧ l = load.toInt ∧ hd = headroom.toInt) := by
      simp only [reportClamped, v, l, hd, Bool.or_eq_true, decide_eq_true_eq]
      tauto
    rw [hans, this, hstate]
    by_cases hin : v = volts.toInt ∧ l = load.toInt ∧ hd = headroom.toInt
    · rw [if_pos hin, if_neg (fun hc => hclamped.mp hc hin)]
    · rw [if_neg hin, if_pos (hclamped.mpr hin)]

/-- Settles O38: the hold and STALE are these functions of the state, and the mark STALE is the tick's. -/
theorem holdAndStale : Obligations.HoldAndStale := by
  refine ⟨fun s tag h => ⟨?_, ?_⟩, fun s => ?_, fun limit w hw => ⟨?_, rfl⟩⟩
  · change Host.Outcome.next (arrive .plant tag .holdMaintenance s) = _
    rw [arrive_owner .plant tag _ s h (Nat.le_of_ble_eq_true rfl) rfl rfl]
    rfl
  · change Host.Outcome.next (arrive .plant tag .releaseHold s) = _
    rw [arrive_owner .plant tag _ s h (Nat.le_of_ble_eq_true rfl) rfl rfl]
    rfl
  · rfl
  · change (_ && (!w.stale || (!w.aged && w.report.isNone))) = _
    rcases hw with hw | hw
    · rw [hw]
      rfl
    · rw [hw]
      simp [satAdd]

end Sys2Proof.Laws
end

section
/-! SUPPORT. The arbiter's grants, and the attempts of a transaction. -/

namespace Sys2Proof.Laws

open Sys2Proof.Machine

/-! ### Grants (R144, R145) -/

theorem firstWait_eq (c : ClassEntry) :
    firstWait c = if (c.cls = .f ∨ c.cls = .fh) ∧ c.delay ≠ 0 then .delay else .reply := by
  unfold firstWait
  cases c.cls <;> by_cases h : c.delay = 0 <;> simp [h]

theorem startTransaction_eq (who : Claimant) (m : MemberNo) (c : LoopCommand) (s : State) :
    startTransaction who m c s = granted who m c s := by
  simp only [startTransaction, firstWait_eq]
  rfl

/-- A slot's request granted: a WRITE CONFIG of a string that is held ends LOCKED (R145). -/
theorem grantSlot_eq (p : SlotPort) (m : MemberNo) (c : LoopCommand) (s : State) :
    grantSlot p m c s = slotGranted p m c s := by
  have hlocked : (c.isConfig && nodeBusy s m) = match c, stringOf m with
      | .writeConfig _, some i => (match (recordOf s i).state with | .equalise _ | .water _ => true | _ => false)
      | _, _ => false := by
    cases c
    case writeConfig =>
      simp only [LoopCommand.isConfig, nodeBusy, Bool.true_and]
      cases stringOf m with
      | none => rfl
      | some i =>
        dsimp only
        cases (recordOf s i).state <;> rfl
    all_goals rfl
  unfold grantSlot slotGranted
  rw [hlocked, startTransaction_eq]
  cases p <;> rfl

theorem grantDemand_eq (j : DemandJob) (s : State) :
    grantDemand j s =
      let d := { s with loop := { s.loop with claimDemand := none } }
      match j with
      | .poll =>
        { d with
          loop := { d.loop with inFlight := some (.poll s.demand.owed) }
          demand := { s.demand with poll := .inFlight } }
      | .config i => granted (.reconfiguration i) (nodeOf i) (.writeConfig (BitVec.ofNat 16 s.settings.threshold)) d := by
  cases j with
  | poll => rfl
  | config i => exact startTransaction_eq _ _ _ _

/-- What the scanner has left after the item at hand (R29). -/
theorem itemsAfter_eq (s : State) :
    itemsAfter s = match s.sweep.run with | some (_ :: rest) => rest | _ => [] := by
  unfold itemsAfter
  cases s.sweep.run with
  | none => rfl
  | some l => cases l <;> rfl

/-- Settles O39: the levels in their order, each claim with what its grant brings. -/
theorem loopGrantTakesTheHighestLevel : Obligations.LoopGrantTakesTheHighestLevel := by
  refine ⟨fun s h => ?_, fun s hfly hrel => ?_⟩
  · change Host.Outcome.next (grantAtBoundary s) = _
    have hclosed : arbiterOpen s = false := by
      unfold arbiterOpen
      rcases h with h | ⟨h, hg⟩ | h | h
      · cases hf : s.loop.inFlight with
        | none => simp [hf] at h
        | some x => rfl
      · simp [h, hg]
      · cases hr : s.loop.release <;> simp_all [Release.place]
      · cases hr : s.loop.release <;> simp_all [Release.place]
    simp [grantAtBoundary, hclosed]
  · intro l d w e p
    change Host.Outcome.next (grantAtBoundary s) = _
    have hopen : arbiterOpen s = true := by
      unfold arbiterOpen
      rw [hfly]
      rcases hrel with h | ⟨h, hg⟩
      · rw [h]
        rfl
      · rw [h, hg]
        rfl
    have hgrant : grantAtBoundary s = grantHighest s := by simp [grantAtBoundary, hopen]
    rw [hgrant]
    refine congrArg Host.Outcome.next ?_
    unfold grantHighest
    change (match l.claimDemand, l.claimSweep, l.claimWater, l.claimEqualise with
      | some j, _, _, _ => grantDemand j s
      | none, some it, _, _ => grantSweep it s
      | none, none, some j, _ => grantWater j s
      | none, none, none, some j => grantEqualise j s
      | none, none, none, none => grantPassThrough s) = _
    cases l.claimDemand with
    | some j => cases j <;> exact grantDemand_eq _ s
    | none =>
      cases l.claimSweep with
      | some it =>
        cases it with
        | summary i => exact startTransaction_eq _ _ _ _
        | cells i => exact startTransaction_eq _ _ _ _
        | closeValve i =>
          simp only [grantSweep, startTransaction_eq, continueSweep_eq, itemsAfter_eq]
          rfl
      | none =>
        cases l.claimWater with
        | some j => cases j <;> exact startTransaction_eq _ _ _ _
        | none =>
          cases l.claimEqualise with
          | some j => cases j <;> exact startTransaction_eq _ _ _ _
          | none =>
            simp only [grantPassThrough, grantSlot_eq]
            rfl

/-! ### The attempts of a transaction (R137, R138) -/

section
variable {s : State} {t : Transaction}

theorem awaited_of_reply (hf : s.loop.inFlight = some (.transaction t)) (hw : t.wait = .reply) : awaited s = some t :=
  awaited_eq_some.mpr ⟨hf, hw⟩

theorem awaited_of_wait (hf : s.loop.inFlight = some (.transaction t)) (hw : t.wait ≠ .reply) : awaited s = none := by
  simp [awaited, transactionInFlight, hf, Option.filter, hw]

theorem pollInFlight_of_transaction (hf : s.loop.inFlight = some (.transaction t)) : pollInFlight s = false := by
  simp [pollInFlight, hf]

end

/-- A reply with a spoiled character is spoiled (R138). -/
theorem readReply_spoiled (m : MemberNo) (c : LoopCommand) (cs : List LineChar) (h : cs.any LineChar.spoiled = true) :
    readReply m c cs = .spoiled := by
  unfold readReply
  simp [h]

theorem replyLength_eq (c : LoopCommand) :
    c.replyLength = match c with
      | .readSummary | .readBoost => 8
      | .readCells => 48
      | .standby => 4
      | .setPoint _ _ => 6
      | .readWater => 5
      | _ => 0 := by
  cases c <;> rfl

/-- A member's frame that arrives while its reply is awaited is read (R138). -/
theorem exec_loopReply {s : State} {t : Transaction} (status : Octet) (data : List Octet) (h : awaited s = some t) :
    exec (.loopReply (onLine (replyFrame t.member t.command status data))) s =
      .next (takeReply t (readReply t.member t.command (onLine (replyFrame t.member t.command status data))) s) := by
  have hne : (onLine (replyFrame t.member t.command status data)).isEmpty = false := by simp [onLine, replyFrame]
  change Host.Outcome.next (replyArrives _ s) = _
  rw [replyArrives, h, loopChars_onLine]
  dsimp only
  rw [hne]
  rfl

/-- Settles O40: the reply awaited by what arrives, and by class where it is HOLD. -/
theorem attemptsAreRepeated : Obligations.AttemptsAreRepeated := by
  intro s t hf put again spoilt
  have hput (x : Transaction) : putTransaction x s = put x := rfl
  refine ⟨?_, fun hw hr => ?_, fun hw => ?_, fun hw => ?_, fun hw => ?_⟩
  · change Host.Outcome.next (delayExpires s) = _
    have htx : transactionInFlight s = some t := by simp [transactionInFlight, hf]
    simp only [delayExpires, htx, hput]
    cases hw : t.wait with
    | delay => rfl
    | autoRepeat => rfl
    | reply =>
      have hsame : ({ t with wait := .reply } : Transaction) = t := by rw [← hw]
      rw [hsame]
      simp only [put, ← hf]
  · have haw := awaited_of_reply hf hw
    have hagain (o : TxOutcome) : failAttempt t o s = put again := by
      rw [failAttempt_retry t o s hr, firstWait_eq]
      rfl
    refine ⟨?_, ?_, fun rest => ?_⟩
    · change Host.Outcome.next (replyTimedOut s) = _
      simp only [replyTimedOut, haw, hagain]
    · change Host.Outcome.next (replyGap s) = _
      simp only [replyGap, haw, hagain, pollInFlight_of_transaction hf, Bool.false_eq_true, if_false]
    · change Host.Outcome.next (replyArrives (spoilt :: rest) s) = _
      have htaken : loopChars (spoilt :: rest) = spoilt :: loopChars rest := by
        have : spoilt.taken = true := by simp only [spoilt]; decide
        simp [loopChars, this]
      have hspoilt : (spoilt :: loopChars rest).any LineChar.spoiled = true := by
        have : spoilt.spoiled = true := by simp only [spoilt]; decide
        simp [this]
      simp only [replyArrives, haw, htaken, readReply_spoiled _ _ _ hspoilt, takeReply, hagain]
      rfl
  · have haw := awaited_of_reply hf hw
    intro length
    refine ⟨fun data hd => ?_, fun code => ?_⟩
    · exact loopReply_ok haw (hd.trans (replyLength_eq t.command).symm)
    · have hread : readReply t.member t.command (onLine (replyFrame t.member t.command 2 [code])) = .error code := by
        rw [readReply_replyFrame _ _ _ _ (by exact (by decide : 1 < 256))]
        rfl
      rw [exec_loopReply _ _ haw, hread]
      rfl
  · have haw := awaited_of_reply hf hw
    intro hold
    have hhold : hold = .next (match repeatOnHold t with
        | some t' => put t'
        | none => endTransaction t .holdExhausted s) := by
      have hread : readReply t.member t.command (onLine (replyFrame t.member t.command 1 [])) = .hold := by
        rw [readReply_replyFrame _ _ _ _ (by exact (by decide : 0 < 256))]
        rfl
      exact (exec_loopReply _ _ haw).trans (by rw [hread]; rfl)
    refine ⟨fun hc hlt => ?_, fun hc h0 => ?_, fun h => ?_⟩
    · have : repeatOnHold t = some { t with holds := t.holds + 1 } := by
        unfold repeatOnHold
        rcases hc with hc | hc <;> simp [hc, hlt, hw]
      rw [hhold, this]
    · have : repeatOnHold t = some { t with holds := 1, wait := if t.cls.delay = 0 then .reply else .autoRepeat } := by
        unfold repeatOnHold
        simp [hc, h0]
      rw [hhold, this]
    · have : repeatOnHold t = none := by
        unfold repeatOnHold
        rcases h with hc | ⟨hc, h0⟩ | ⟨hc | hc, hle⟩
        · simp [hc]
        · simp [hc, h0]
        · simp [hc, Nat.not_lt.mpr hle]
        · simp [hc, Nat.not_lt.mpr hle]
      rw [hhold, this]
  · have haw := awaited_of_wait hf hw
    refine ⟨?_, ?_, fun chars => ?_⟩
    · change Host.Outcome.next (replyTimedOut s) = _
      simp only [replyTimedOut, haw]
    · change Host.Outcome.next (replyGap s) = _
      simp only [replyGap, haw, pollInFlight_of_transaction hf, Bool.false_eq_true, if_false]
    · change Host.Outcome.next (replyArrives chars s) = _
      simp only [replyArrives, haw]

end Sys2Proof.Laws
end

section
/-! SUPPORT. What a claimant takes leaves what is in flight, and the release. -/

namespace Sys2Proof.Laws

open Sys2Proof.Machine

/-! ### What is in flight, and the release, over what a claimant takes -/

section
variable (s : State)

@[simp] theorem claimEqualise_line (j : EqJob) : (claimEqualise j s).loop.inFlight = s.loop.inFlight ∧
    (claimEqualise j s).loop.release = s.loop.release := ⟨rfl, rfl⟩

@[simp] theorem withdrawEqualise_line : (withdrawEqualise s).loop.inFlight = s.loop.inFlight ∧
    (withdrawEqualise s).loop.release = s.loop.release := ⟨rfl, rfl⟩

@[simp] theorem claimWater_line (j : WaterJob) : (claimWater j s).loop.inFlight = s.loop.inFlight ∧
    (claimWater j s).loop.release = s.loop.release := ⟨rfl, rfl⟩

@[simp] theorem withdrawWater_line : (withdrawWater s).loop.inFlight = s.loop.inFlight ∧
    (withdrawWater s).loop.release = s.loop.release := ⟨rfl, rfl⟩

@[simp] theorem enterDetach_line : (enterDetach s).loop.inFlight = s.loop.inFlight ∧ (enterDetach s).loop.release = s.loop.release := by
  unfold enterDetach
  simp

@[simp] theorem stopDriving_line : (stopDriving s).loop.inFlight = s.loop.inFlight ∧ (stopDriving s).loop.release = s.loop.release := by
  unfold stopDriving
  repeat' split
  all_goals simp

@[simp] theorem decideEqualise_line (o : EqOutcome) : (decideEqualise o s).loop.inFlight = s.loop.inFlight ∧ (decideEqualise o s).loop.release = s.loop.release := by
  unfold decideEqualise
  repeat' split
  all_goals simp

@[simp] theorem placePauseStandby_line : (placePauseStandby s).loop.inFlight = s.loop.inFlight ∧ (placePauseStandby s).loop.release = s.loop.release := by
  unfold placePauseStandby
  simp

@[simp] theorem takePause_line : (takePause s).loop.inFlight = s.loop.inFlight ∧ (takePause s).loop.release = s.loop.release := by
  unfold takePause
  dsimp only
  repeat' split
  all_goals simp

@[simp] theorem addPause_line (c : PauseCause) : (addPause c s).loop.inFlight = s.loop.inFlight ∧ (addPause c s).loop.release = s.loop.release := by
  unfold addPause
  repeat' split
  all_goals simp

@[simp] theorem nextPeriod_line : (nextPeriod s).loop.inFlight = s.loop.inFlight ∧ (nextPeriod s).loop.release = s.loop.release := by
  unfold nextPeriod
  repeat' split
  all_goals simp

@[simp] theorem actOnVerdict_line (v : Verdict) : (actOnVerdict v s).loop.inFlight = s.loop.inFlight ∧ (actOnVerdict v s).loop.release = s.loop.release := by
  unfold actOnVerdict
  repeat' split
  all_goals simp

@[simp] theorem setPointAnswered_line (rd : Reading) : (setPointAnswered rd s).loop.inFlight = s.loop.inFlight ∧ (setPointAnswered rd s).loop.release = s.loop.release := by
  unfold setPointAnswered
  dsimp only
  repeat' split
  all_goals simp

@[simp] theorem setPointFailed_line : (setPointFailed s).loop.inFlight = s.loop.inFlight ∧ (setPointFailed s).loop.release = s.loop.release := by
  unfold setPointFailed
  dsimp only
  repeat' split
  all_goals simp

@[simp] theorem attachEnded_line (i : StringNo) (o : TxOutcome) : (attachEnded i o s).loop.inFlight = s.loop.inFlight ∧ (attachEnded i o s).loop.release = s.loop.release := by
  unfold attachEnded
  dsimp only
  repeat' split
  all_goals simp

@[simp] theorem connectStandbyEnded_line (o : TxOutcome) : (connectStandbyEnded o s).loop.inFlight = s.loop.inFlight ∧ (connectStandbyEnded o s).loop.release = s.loop.release := by
  simp only [connectStandbyEnded]
  repeat' split
  all_goals simp

@[simp] theorem pauseStandbyEnded_line (o : TxOutcome) : (pauseStandbyEnded o s).loop.inFlight = s.loop.inFlight ∧ (pauseStandbyEnded o s).loop.release = s.loop.release := by
  unfold pauseStandbyEnded
  repeat' split
  all_goals simp

@[simp] theorem refreshEnded_line (o : TxOutcome) : (refreshEnded o s).loop.inFlight = s.loop.inFlight ∧ (refreshEnded o s).loop.release = s.loop.release := by
  unfold refreshEnded
  dsimp only
  repeat' split
  all_goals simp

@[simp] theorem detachEnded_line (o : TxOutcome) : (detachEnded o s).loop.inFlight = s.loop.inFlight ∧ (detachEnded o s).loop.release = s.loop.release := by
  unfold detachEnded
  repeat' split
  all_goals simp

@[simp] theorem enterWacFault_line : (enterWacFault s).loop.inFlight = s.loop.inFlight ∧ (enterWacFault s).loop.release = s.loop.release := by
  unfold enterWacFault
  dsimp only
  repeat' split
  all_goals simp

@[simp] theorem handOnDose_line (d : Dose) (o : WaterOutcome) (l : Leave) (b : Bool) : (handOnDose d o l b s).loop.inFlight = s.loop.inFlight ∧ (handOnDose d o l b s).loop.release = s.loop.release := by
  unfold handOnDose
  dsimp only
  repeat' split
  all_goals simp

@[simp] theorem endDose_line (l : Leave) (b : Bool) : (endDose l b s).loop.inFlight = s.loop.inFlight ∧ (endDose l b s).loop.release = s.loop.release := by
  unfold endDose
  repeat' split
  all_goals simp

@[simp] theorem closeStep_line (d : Dose) : (closeStep d s).loop.inFlight = s.loop.inFlight ∧ (closeStep d s).loop.release = s.loop.release := by
  unfold closeStep
  repeat' split
  all_goals simp

@[simp] theorem endSequence_line : (endSequence s).loop.inFlight = s.loop.inFlight ∧ (endSequence s).loop.release = s.loop.release := by
  unfold endSequence
  dsimp only
  repeat' split
  all_goals simp

@[simp] theorem stopDosing_line : (stopDosing s).loop.inFlight = s.loop.inFlight ∧ (stopDosing s).loop.release = s.loop.release := by
  unfold stopDosing
  repeat' split
  all_goals simp

@[simp] theorem decideWater_line (o : WaterOutcome) : (decideWater o s).loop.inFlight = s.loop.inFlight ∧ (decideWater o s).loop.release = s.loop.release := by
  unfold decideWater
  repeat' split
  all_goals simp

@[simp] theorem openValveEnded_line (i : StringNo) (o : TxOutcome) : (openValveEnded i o s).loop.inFlight = s.loop.inFlight ∧ (openValveEnded i o s).loop.release = s.loop.release := by
  unfold openValveEnded
  repeat' split
  all_goals simp

@[simp] theorem pumpOnEnded_line (o : TxOutcome) : (pumpOnEnded o s).loop.inFlight = s.loop.inFlight ∧ (pumpOnEnded o s).loop.release = s.loop.release := by
  unfold pumpOnEnded
  dsimp only
  repeat' split
  all_goals simp

@[simp] theorem dosePollEnded_line (o : TxOutcome) : (dosePollEnded o s).loop.inFlight = s.loop.inFlight ∧ (dosePollEnded o s).loop.release = s.loop.release := by
  unfold dosePollEnded
  dsimp only
  repeat' split
  all_goals simp

@[simp] theorem pumpOffEnded_line (o : TxOutcome) : (pumpOffEnded o s).loop.inFlight = s.loop.inFlight ∧ (pumpOffEnded o s).loop.release = s.loop.release := by
  unfold pumpOffEnded
  repeat' split
  all_goals simp

@[simp] theorem closeValveEnded_line (o : TxOutcome) : (closeValveEnded o s).loop.inFlight = s.loop.inFlight ∧ (closeValveEnded o s).loop.release = s.loop.release := by
  unfold closeValveEnded
  repeat' split
  all_goals simp

@[simp] theorem reservoirPollEnded_line (o : TxOutcome) : (reservoirPollEnded o s).loop.inFlight = s.loop.inFlight ∧ (reservoirPollEnded o s).loop.release = s.loop.release := by
  unfold reservoirPollEnded
  dsimp only
  repeat' split
  all_goals simp

@[simp] theorem faultPumpOffEnded_line (o : TxOutcome) : (faultPumpOffEnded o s).loop.inFlight = s.loop.inFlight ∧ (faultPumpOffEnded o s).loop.release = s.loop.release := by
  unfold faultPumpOffEnded
  repeat' split
  all_goals simp

@[simp] theorem beginDose_line (e : QueueEntry) (n : Nat) : (beginDose e n s).loop.inFlight = s.loop.inFlight ∧ (beginDose e n s).loop.release = s.loop.release := by
  unfold beginDose
  dsimp only
  repeat' split
  all_goals simp

@[simp] theorem checkEnded_line (o : TxOutcome) : (checkEnded o s).loop.inFlight = s.loop.inFlight ∧ (checkEnded o s).loop.release = s.loop.release := by
  unfold checkEnded
  dsimp only
  repeat' split
  all_goals simp

@[simp] theorem barEqualised_line (i : StringNo) (b : Option BarCause) (c : BarCause) : (barEqualised i b c s).loop.inFlight = s.loop.inFlight ∧ (barEqualised i b c s).loop.release = s.loop.release := by
  unfold barEqualised
  dsimp only
  repeat' split
  all_goals simp

@[simp] theorem barWatered_line (i : StringNo) (b : Option BarCause) (c : BarCause) : (barWatered i b c s).loop.inFlight = s.loop.inFlight ∧ (barWatered i b c s).loop.release = s.loop.release := by
  unfold barWatered
  dsimp only
  repeat' split
  all_goals simp

@[simp] theorem bar_line (i : StringNo) (c : BarCause) : (bar i c s).loop.inFlight = s.loop.inFlight ∧ (bar i c s).loop.release = s.loop.release := by
  unfold bar
  repeat' split
  all_goals simp

@[simp] theorem clearDetachEnded_line (o : TxOutcome) : (clearDetachEnded o s).loop.inFlight = s.loop.inFlight ∧ (clearDetachEnded o s).loop.release = s.loop.release := by
  unfold clearDetachEnded
  dsimp only
  repeat' split
  all_goals simp

@[simp] theorem clearPumpOffEnded_line (o : TxOutcome) : (clearPumpOffEnded o s).loop.inFlight = s.loop.inFlight ∧ (clearPumpOffEnded o s).loop.release = s.loop.release := by
  unfold clearPumpOffEnded waterClearDone waterClearFails
  dsimp only
  repeat' split
  all_goals simp

@[simp] theorem clearCloseEnded_line (i : StringNo) (o : TxOutcome) : (clearCloseEnded i o s).loop.inFlight = s.loop.inFlight ∧ (clearCloseEnded i o s).loop.release = s.loop.release := by
  unfold clearCloseEnded waterClearDone waterClearFails
  dsimp only
  repeat' split
  all_goals simp

@[simp] theorem reachItem_line (l : List SweepItem) : (reachItem l s).loop.inFlight = s.loop.inFlight ∧ (reachItem l s).loop.release = s.loop.release := by
  unfold reachItem
  repeat' split
  all_goals simp

@[simp] theorem continueSweep_line (l : List SweepItem) : (continueSweep l s).loop.inFlight = s.loop.inFlight ∧ (continueSweep l s).loop.release = s.loop.release := by
  unfold continueSweep startSweep
  dsimp only
  repeat' split
  all_goals simp

@[simp] theorem spreadCheck_line (i : StringNo) (n : Nat) : (spreadCheck i n s).loop.inFlight = s.loop.inFlight ∧ (spreadCheck i n s).loop.release = s.loop.release := by
  unfold spreadCheck
  repeat' split
  all_goals simp

@[simp] theorem summaryAnswered_line (i : StringNo) (data : List Octet) : (summaryAnswered i data s).loop.inFlight = s.loop.inFlight ∧ (summaryAnswered i data s).loop.release = s.loop.release := by
  unfold summaryAnswered
  dsimp only
  repeat' split
  all_goals simp

@[simp] theorem cellsAnswered_line (i : StringNo) (data : List Octet) : (cellsAnswered i data s).loop.inFlight = s.loop.inFlight ∧ (cellsAnswered i data s).loop.release = s.loop.release := by
  unfold cellsAnswered
  dsimp only
  repeat' split
  all_goals simp

@[simp] theorem sweepItemEnded_line (it : SweepItem) (o : TxOutcome) : (sweepItemEnded it o s).loop.inFlight = s.loop.inFlight ∧ (sweepItemEnded it o s).loop.release = s.loop.release := by
  unfold sweepItemEnded
  repeat' split
  all_goals simp

@[simp] theorem configEnded_line (i : StringNo) (o : TxOutcome) : (configEnded i o s).loop.inFlight = s.loop.inFlight ∧ (configEnded i o s).loop.release = s.loop.release := by
  unfold configEnded
  dsimp only
  repeat' split
  all_goals simp

@[simp] theorem slotDone_line (p : SlotPort) (r : SlotResult) : (slotDone p r s).loop.inFlight = s.loop.inFlight ∧ (slotDone p r s).loop.release = s.loop.release := by
  unfold slotDone setSlot
  repeat' split
  all_goals simp

@[simp] theorem handAbsence_line (m : MemberNo) : (handAbsence m s).loop.inFlight = s.loop.inFlight ∧ (handAbsence m s).loop.release = s.loop.release := by
  unfold handAbsence
  repeat' split
  all_goals simp

end

end Sys2Proof.Laws
end

section
/-! SUPPORT. The end of a transaction, and what it is followed by. -/

namespace Sys2Proof.Laws

open Sys2Proof.Machine

/-! ### The end of a transaction (R138 to R140) -/

/-- A member stays present unless this outcome marks it absent. -/
theorem stays_present (p : Bool) (n : Nat) : (p && decide (n ≠ 3)) = (false || (p && !(p && decide (n = 3)))) := by
  cases p <;> simp

theorem countOutcome_eq (m : MemberNo) (o : TxOutcome) (s : State) :
    let answered : Bool := match o with | .answer _ => true | _ => false
    let count := if answered then 0 else min 3 (s.loop.failures[m] + 1)
    let lost : Bool := s.loop.present[m] && decide (count = 3)
    countOutcome m o s =
        { s with loop := { s.loop with
          failures := s.loop.failures.set m count
          present := s.loop.present.set m (answered || (s.loop.present[m] && !lost)) } }
      ∧ marksAbsent s m o = lost := by
  cases o
  case answer data => exact ⟨by simp [countOutcome, failuresAfter, modLoop], by simp [marksAbsent, failuresAfter, Config.failuresForAbsence]⟩
  all_goals
    refine ⟨?_, ?_⟩
    · exact congrArg (fun b : Bool => { s with loop := { s.loop with
        failures := s.loop.failures.set m (min 3 (s.loop.failures[m] + 1)), present := s.loop.present.set m b } })
        (stays_present s.loop.present[m] _)
    · simp [marksAbsent, failuresAfter, isPresent, Config.failuresForAbsence]

/-- How a transaction ends, in the terms of the clause. -/
theorem endTransaction_eq (t : Transaction) (o : TxOutcome) (s : State) :
    endTransaction t o s =
      judgeDemand (judge (afterEnd t o (transactionEnds t.member o (handOutcome t.claimant o) s))) := by
  obtain ⟨hcounted, hlost⟩ := countOutcome_eq t.member o s
  unfold endTransaction transactionEnds
  dsimp only
  rw [hlost, hcounted]
  generalize (s.loop.present[t.member] && _) = lost
  cases lost
  · rfl
  · simp only [handBoth]
    cases Config.markingFirst s.free <;> rfl

theorem handOutcome_line (who : Claimant) (o : TxOutcome) (s : State) (h : ∀ j, who ≠ .safeState j) :
    (handOutcome who o s).loop.inFlight = s.loop.inFlight ∧ (handOutcome who o s).loop.release = s.loop.release := by
  cases who with
  | safeState j => exact absurd rfl (h j)
  | reconfiguration i => exact configEnded_line s i o
  | sweep it => exact sweepItemEnded_line s it o
  | slot p => exact slotDone_line s p _
  | water j => cases j <;> simp [handOutcome]
  | equalise j =>
    cases j
    case setPoint sp => cases o <;> simp [handOutcome]
    all_goals simp [handOutcome]

/-- After a transaction of any claimant but the sequence nothing is in flight, and the release is as it was. -/
theorem transactionEnds_line (m : MemberNo) (o : TxOutcome) (who : Claimant) (s : State) (h : ∀ j, who ≠ .safeState j) :
    (transactionEnds m o (handOutcome who o) s).loop.inFlight = none
      ∧ (transactionEnds m o (handOutcome who o) s).loop.release = s.loop.release := by
  have marked (x : State) : markingHanded m x = handAbsence m x := rfl
  unfold transactionEnds
  dsimp only
  split_ifs
  all_goals simp [handOutcome_line who o _ h, marked]

/-- The safe-state sequence begins with its first step: no close of it is dropped (R1, R151). -/
theorem startSafe_begins {s : State} {recorded : Bool} (h : s.loop.release = .safeState recorded none) :
    startSafe s = sequenceBegun recorded s := by
  have hstart : startSafe s = nextSafe (setRelease (.safeState recorded (some (safeSteps s))) s) := by
    simp [startSafe, h]
  have hkept : (safeSteps s).dropWhile (SafeStep.dropped (setRelease (.safeState recorded (some (safeSteps s))) s)) =
      safeSteps s := by
    cases hl : ((stringsInLoopOrder s).filter fun i => isPresent s (nodeOf i)) with
    | nil =>
      simp only [safeSteps, hl]
      rfl
    | cons i rest =>
      have hi : i ∈ (stringsInLoopOrder s).filter fun i => isPresent s (nodeOf i) := by
        rw [hl]
        exact List.mem_cons_self
      have hin : isInstalled s i = true := stringsInLoopOrder_installed (List.mem_filter.mp hi).1
      have hkeep : SafeStep.dropped (setRelease (.safeState recorded (some (safeSteps s))) s) (.close i) = false := by
        simpa [SafeStep.dropped, isInstalled] using hin
      have hsteps : safeSteps s = .close i :: (rest.map SafeStep.close ++ [.pumpOff, .boost]) := by
        simp [safeSteps, hl]
      generalize setRelease _ s = x at hkeep
      rw [hsteps, List.dropWhile_cons_of_neg (by simpa using hkeep)]
  rw [hstart]
  have hnext : nextSafe (setRelease (.safeState recorded (some (safeSteps s))) s) =
      match safeSteps s with
      | x :: rest => sendStep x (setRelease (.safeState recorded (some rest)) (setRelease (.safeState recorded (some (safeSteps s))) s))
      | [] => finishSafe recorded (setRelease (.safeState recorded (some (safeSteps s))) s) := by
    rw [nextSafe]
    change (match (safeSteps s).dropWhile _ with | x :: rest => _ | [] => _) = _
    rw [hkept]
  rw [hnext]
  cases hl : ((stringsInLoopOrder s).filter fun i => isPresent s (nodeOf i)) with
  | nil =>
    simp only [safeSteps, sequenceBegun, hl]
    rfl
  | cons i rest =>
    simp only [safeSteps, sequenceBegun, hl]
    rfl

theorem afterEnd_eq {t : Transaction} {o : TxOutcome} {x : State} {rel : Release} (hc : ∀ j, t.claimant ≠ .safeState j)
    (hf : x.loop.inFlight = none) :
    x.loop.release = rel → afterEnd t o x = match rel with
      | .safeState recorded none => sequenceBegun recorded x
      | _ => x := by
  have : afterEnd t o x = startSafe x := by
    unfold afterEnd
    split
    · rename_i j hj
      exact absurd hj (hc j)
    · simp [hf]
  rintro rfl
  rw [this]
  split
  · rename_i recorded hr
    exact startSafe_begins hr
  · rename_i hr
    exact startSafe_of_ne ⟨hr false, hr true⟩

theorem outcomesAreHanded (s : State) : OutcomesAreHanded s := by
  intro o i it p
  refine ⟨rfl, rfl, rfl, rfl, rfl, rfl, rfl, rfl, rfl, rfl, rfl, rfl, rfl, rfl, rfl, rfl, rfl, fun h => ?_, fun h => ?_, ?_⟩
  · have hsame : setAttachment .empty s = s := by
      simp only [setAttachment, modEqc, ← h]
    have hun : s.eqc.attachment.unconfirm = .empty := by rw [h]; rfl
    cases o <;> simp [handOutcome, faultDetachEnded, hsame, hun]
  · have hsame : setPump .off s = s := by
      simp only [setPump, modWac, ← h]
    cases o <;> simp [handOutcome, faultPumpOffEnded, hsame, h]
  · cases p <;> rfl

/-- Settles O41: the end of a transaction counted, handed and followed by what a release's end left waiting. -/
theorem transactionEndsAndCounts : Obligations.TransactionEndsAndCounts := by
  refine ⟨outcomesAreHanded, fun s o t hf hc => ⟨?_, fun hw hr => ⟨?_, ?_⟩⟩⟩
  · obtain ⟨hnone, hrel⟩ := transactionEnds_line t.member o t.claimant s hc
    rw [endTransaction_eq]
    exact congrArg (fun x => judgeDemand (judge x)) (afterEnd_eq hc hnone hrel)
  · have haw := awaited_of_reply hf hw
    change Host.Outcome.next (replyTimedOut s) = _
    simp only [replyTimedOut, haw, failAttempt_last _ _ _ hr]
  · have haw := awaited_of_reply hf hw
    change Host.Outcome.next (replyGap s) = _
    simp only [replyGap, haw, failAttempt_last _ _ _ hr, pollInFlight_of_transaction hf, Bool.false_eq_true, if_false]

end Sys2Proof.Laws
end

section
/-! SUPPORT. The grant of a release, its end, and the safe-state sequence. -/

namespace Sys2Proof.Laws

open Sys2Proof.Machine

/-! ### The grant of a release (R147, R148) -/

theorem exec_takeLoop {s : State} (tag : Octet) (h : hears .service s) :
    exec (.takeLoop .service tag) s = .next (owing .service 0x13 tag (answerTakeLoop s).status (answerTakeLoop s).results
      (answerTakeLoop s).state) := by
  change Host.Outcome.next (arrive .service tag .takeLoop s) = _
  rw [arrive_owner .service tag _ s h (Nat.le_of_ble_eq_true rfl) rfl rfl]
  rfl

theorem exec_giveLoop {s : State} (tag : Octet) (h : hears .service s) :
    exec (.giveLoop .service tag) s = .next (owing .service 0x14 tag (answerGiveLoop s).status (answerGiveLoop s).results
      (answerGiveLoop s).state) := by
  change Host.Outcome.next (arrive .service tag .giveLoop s) = _
  rw [arrive_owner .service tag _ s h (Nat.le_of_ble_eq_true rfl) rfl rfl]
  rfl

/-- The place of RELEASED. -/
theorem place_released {r : Release} : r.place = Release.place (.released false) ↔ ∃ b, r = .released b := by
  cases r <;> simp [Release.place]

theorem grantConditions_eq (s : State) :
    grantConditions s = (s.wac.valve = .empty && s.wac.pump = .off
      && (s.eqc.state = .idle || s.eqc.state = .paused || s.eqc.state = .fault)
      && (s.wac.state = .idle || s.wac.state = .fault)) := by
  unfold grantConditions
  cases s.eqc.state <;> cases s.wac.state <;> simp

theorem grantRelease_eq (s : State) :
    grantRelease s =
      let t := { s with loop := { s.loop with release := .released false, releaseTimer := 0 } }
      match s.loop.serviceSlot with
      | .waiting m c => slotGranted .service m c t
      | _ => t := by
  unfold grantRelease grantService
  dsimp only
  cases hs : s.loop.serviceSlot <;> simp [modLoop, hs, grantSlot_eq]

/-- Settles O42: the answer of TAKE LOOP by the place of the release, and the grant by its conditions. -/
theorem releaseIsTakenAndGranted : Obligations.ReleaseIsTakenAndGranted := by
  refine ⟨fun s tag h => ⟨fun hrel => ?_, fun hrel => ?_, fun recorded todo hrel => ?_⟩, fun s => ?_⟩
  · have : answerTakeLoop s = refuse .busy s := by
      unfold answerTakeLoop
      rcases hrel with hrel | hrel
      · rw [hrel]
      · obtain ⟨b, hrel⟩ := place_released.mp hrel
        rw [hrel]
    rw [exec_takeLoop tag h, this]
    rfl
  · intro u
    have : answerTakeLoop s = if u.loop.inFlight = none ∧ grantConditions u then done (judge (grantRelease u))
        else accepted (judge u) := by
      unfold answerTakeLoop
      rw [hrel]
      simp only [Option.isNone_iff_eq_none]
      rfl
    rw [exec_takeLoop tag h, this]
    split <;> rfl
  · rw [exec_takeLoop tag h, answerTakeLoop, hrel]
    cases recorded <;> rfl
  · intro met t
    change Host.Outcome.next (grantReleaseAtBoundary s) = _
    have hgrant : grantReleaseAtBoundary s = if s.loop.inFlight = none ∧ s.loop.release = .pending ∧ met then
        judge (grantRelease s) else s := by
      rw [grantReleaseAtBoundary, grantConditions_eq]
      exact if_congr (by rw [Option.isNone_iff_eq_none]) rfl rfl
    rw [hgrant]
    split
    · exact congrArg (fun x => Host.Outcome.next (judge x)) (grantRelease_eq s)
    · rfl

/-! ### The end of a release and the safe-state sequence (R82, R119, R149 to R151) -/

theorem endRelease_eq (s : State) :
    endRelease s =
      if s.loop.inFlight = none then sequenceBegun false s
      else { s with loop := { s.loop with release := .safeState false none } } := by
  unfold endRelease
  dsimp only
  have hflight : (setRelease (.safeState false none) s).loop.inFlight = s.loop.inFlight := rfl
  rw [hflight]
  simp only [Option.isNone_iff_eq_none]
  split
  · rw [startSafe_begins (s := setRelease (.safeState false none) s) rfl]
    rfl
  · rfl

theorem takeReleaseLimit_of_ne {s : State} (h : ∀ b, s.loop.release ≠ .released b) : takeReleaseLimit s = s := by
  unfold takeReleaseLimit
  split
  · rename_i hr
    exact absurd hr (h true)
  · rfl

/-- Entry of the Water Channel to FAULT, in one piece (R115, R117). -/
theorem enterWacFault_eq (s : State) :
    enterWacFault s =
      raiseAll Notice.channelFault.mask { s with
        wac := { s.wac with
          state := .fault, pollTimer := none
          check := if s.loop.claimWater = some .check then none else s.wac.check }
        loop := { s.loop with
          claimWater :=
            if s.loop.claimWater = some .check ∨ s.loop.claimWater = some .reservoirPoll then none
            else s.loop.claimWater } } := by
  have hmatch (x y z : State) : (match s.loop.claimWater with | some .check => x | some .reservoirPoll => y | _ => z) =
      if s.loop.claimWater = some .check then x else if s.loop.claimWater = some .reservoirPoll then y else z := by
    cases s.loop.claimWater with
    | none => rfl
    | some j => cases j <;> simp
  refine (congrArg (raise .channelFault) (hmatch _ _ _)).trans ?_
  rw [raise_eq]
  by_cases h1 : s.loop.claimWater = some .check
  · simp only [if_pos h1, if_pos (Or.inl h1)]
    rfl
  · by_cases h2 : s.loop.claimWater = some .reservoirPoll
    · simp only [if_neg h1, if_pos h2, if_pos (Or.inr h2)]
      rfl
    · simp only [if_neg h1, if_neg h2, if_neg (not_or.mpr ⟨h1, h2⟩)]
      rfl

/-- What the channels take from the sequence, by the place of each. -/
theorem sequenceOutcomesAreHanded (s : State) : SequenceOutcomesAreHanded s := by
  intro x o i emptied
  refine ⟨rfl, fun h => ?_, fun h hc => ?_, fun h hc => ?_, fun h => ?_, fun h hc => ?_, fun h hc => ?_, fun h => ?_, rfl,
    fun todo h => ?_, fun todo h => ?_, fun hfail => ⟨?_, fun h => ?_, fun h => ?_, fun h hc => ?_, ?_, ?_⟩⟩
  · simp [safeJobEnded, safePumpOffEnded, h]
  · simp [safeJobEnded, safePumpOffEnded, h, hc]
  · simp [safeJobEnded, safePumpOffEnded, h, hc]
  · simp [safeJobEnded, safeDetachEnded, h]
  · simp [safeJobEnded, safeDetachEnded, h, hc]
  · simp only [safeJobEnded, safeDetachEnded, h, hc, Bool.false_eq_true, if_false]
    simp [emptied, setAttachment, modEqc, h, hc]
  · rcases h with h | h <;> simp [safeJobEnded, safeDetachEnded, h]
  · simp [safeJobEnded, safeStandbyEnded, h]
  · simp [safeJobEnded, safeStandbyEnded, h]
  · rcases failed_cases hfail with ⟨c, rfl⟩ | rfl | rfl | rfl <;> rfl
  · have hfault : safeJobEnded .pumpOff o s = enterWacFault s := by
      rcases failed_cases hfail with ⟨c, rfl⟩ | rfl | rfl | rfl <;> simp [safeJobEnded, safePumpOffEnded, h]
    rw [hfault, enterWacFault_eq]
  · have hfault : safeJobEnded .detach o s = enterEqcFault s := by
      rcases failed_cases hfail with ⟨c, rfl⟩ | rfl | rfl | rfl <;> simp [safeJobEnded, safeDetachEnded, h]
    rw [hfault]
    rfl
  · rcases failed_cases hfail with ⟨c, rfl⟩ | rfl | rfl | rfl <;> simp [safeJobEnded, safeDetachEnded, h, hc]
  · rcases failed_cases hfail with ⟨c, rfl⟩ | rfl | rfl | rfl <;> rfl
  · rcases failed_cases hfail with ⟨c, rfl⟩ | rfl | rfl | rfl <;> rfl

/-- The step after a transaction of the sequence, or its end (R1, R151). -/
theorem nextSafe_eq {s : State} {recorded : Bool} {steps : List SafeStep}
    (h : s.loop.release = .safeState recorded (some steps)) :
    nextSafe s =
      match steps.dropWhile (fun x => match x with | .close i => !isInstalled s i | _ => false) with
      | x :: rest => sendStep x { s with loop := { s.loop with release := .safeState recorded (some rest) } }
      | [] =>
        if recorded then { s with loop := { s.loop with release := .pending } }
        else removePause .loopRelease { s with loop := { s.loop with release := .free } } := by
  have hleft : (fun x : SafeStep => match x with | .close i => !isInstalled s i | _ => false) = SafeStep.dropped s := by
    funext x
    cases x <;> rfl
  rw [hleft]
  unfold nextSafe
  rw [h]
  rfl

theorem sendBoost_detach {s : State} (h : s.eqc.state ≠ .paused ∨ openRound s = none) :
    sendBoost s = startTransaction (.safeState .detach) boostUnit .detach (serveDetach s) := by
  unfold sendBoost
  split
  · rename_i r hst hr
    rcases h with h | h
    · exact absurd hst h
    · rw [h] at hr
      cases hr
  · rfl

theorem serveDetach_eq (s : State) :
    serveDetach s =
      { s with
        loop := { s.loop with
          claimEqualise :=
            if s.loop.claimEqualise = some .detach ∨ s.loop.claimEqualise = some .faultDetach
                ∨ s.loop.claimEqualise = some .clearDetach then none
            else s.loop.claimEqualise } } := by
  have hmatch (x y : State) : (match s.loop.claimEqualise with
      | some .detach | some .faultDetach | some .clearDetach => x
      | _ => y) =
      if s.loop.claimEqualise = some .detach ∨ s.loop.claimEqualise = some .faultDetach
          ∨ s.loop.claimEqualise = some .clearDetach then x else y := by
    cases s.loop.claimEqualise with
    | none => rfl
    | some j => cases j <;> simp
  refine (hmatch _ _).trans ?_
  split
  · rfl
  · rfl

/-- Settles O43: the release's end, the channels' share and the sequence's course, each by its own law. -/
theorem releaseEndsInTheSafeState : Obligations.ReleaseEndsInTheSafeState := by
  refine ⟨fun s => ?_, sequenceOutcomesAreHanded, fun s j o hj recorded steps h => ?_, fun s i x => ?_,
    fun s o t j hc hf => ?_⟩
  · intro after
    have hafter : judge (endRelease s) = after := by rw [endRelease_eq]
    refine ⟨fun expired h => ⟨?_, fun tag hh => ?_⟩, fun h tag hh => ?_, fun recorded todo h => ⟨?_, fun tag hh => ?_⟩,
      fun h => ⟨?_, fun tag hh => ?_⟩⟩
    · change Host.Outcome.next (takeReleaseLimit s) = _
      rw [takeReleaseLimit, h, ← hafter]
      cases expired <;> rfl
    · rw [exec_giveLoop tag hh, answerGiveLoop, h, ← hafter]
      rfl
    · rw [exec_giveLoop tag hh, answerGiveLoop, h]
      rfl
    · change Host.Outcome.next (takeReleaseLimit s) = _
      rw [takeReleaseLimit_of_ne (by simp [h])]
    · rw [exec_giveLoop tag hh, answerGiveLoop, h]
      cases recorded <;> rfl
    · change Host.Outcome.next (takeReleaseLimit s) = _
      rw [takeReleaseLimit_of_ne (by simp [h])]
    · rw [exec_giveLoop tag hh, answerGiveLoop, h]
      rfl
  · have : safeGoesOn j o s = nextSafe s := by
      unfold safeGoesOn
      split
      · rename_i i d
        rcases hj with hj | hj
        · exact absurd rfl (hj i)
        · exact absurd rfl (hj d)
      · rfl
    rw [this]
    exact nextSafe_eq h
  · refine ⟨startTransaction_eq _ _ _ _, startTransaction_eq _ _ _ _, fun h => ?_, fun h => ?_, fun r hr hst => ?_, fun h => ?_⟩
    · have : servePumpOff s = s := by
        unfold servePumpOff
        split
        · rename_i hc
          exact absurd hc h
        · rfl
      rw [sendStep, this, startTransaction_eq]
    · have : servePumpOff s = withdrawWater s := by
        unfold servePumpOff
        rw [h]
      rw [sendStep, this, startTransaction_eq]
      rfl
    · rw [sendStep, sendBoost, hst, hr]
      exact startTransaction_eq _ _ _ _
    · rw [sendStep, sendBoost_detach h, startTransaction_eq, serveDetach_eq]
  · rw [endTransaction_eq, hc]
    unfold afterEnd
    rw [hc]
    rfl

end Sys2Proof.Laws
end

section
/-! SUPPORT. The slots' requests and raw exchanges. -/

namespace Sys2Proof.Laws

open Sys2Proof.Machine

/-! ### The slots' requests (R145, R146) -/

theorem isReleased_iff {s : State} : isReleased s = true ↔ s.loop.release.place = Release.place (.released false) := by
  unfold isReleased
  cases s.loop.release <;> simp [Release.place]

theorem isReleased_eq (s : State) :
    isReleased s = decide (s.loop.release.place = Release.place (.released false)) := by
  rw [Bool.eq_iff_iff, isReleased_iff, decide_eq_true_eq]

theorem exec_loopTransaction {p : Port} {s : State} (tag member command : Octet) {data : List Octet} (h : hears p s)
    (hp : permitted p 0x0C = true) (hl : data.length ≤ 59) :
    let a := answerLoopTransaction p member command data s
    exec (.loopTransaction p tag member command data) s = .next (owing p 0x0C tag a.status a.results a.state) := by
  change Host.Outcome.next (arrive p tag (.loopTransaction member command data) s) = _
  have hlen : ((Request.loopTransaction member command data).params).length ≤ 62 := by
    simp [Request.params]
    omega
  rw [arrive_owner p tag _ s h hlen hp rfl]
  rfl

theorem exec_loopResult {p : Port} {s : State} (tag : Octet) (h : hears p s) (hp : permitted p 0x0D = true) :
    let a := answerLoopResult p s
    exec (.loopResult p tag) s = .next (owing p 0x0D tag a.status a.results a.state) := by
  change Host.Outcome.next (arrive p tag .loopResult s) = _
  rw [arrive_owner p tag .loopResult s h (Nat.le_of_ble_eq_true rfl) hp rfl]
  rfl

/-- A request taken waits in its slot; in a release the Service slot's starts at once where nothing is in flight. -/
theorem placePass_plant (m : MemberNo) (c : LoopCommand) (s : State) :
    placePass .plant m c s = { s with loop := { s.loop with plantSlot := .waiting m c } } := by
  simp [placePass, setSlot, modLoop]

/-- In a release a WRITE CONFIG that is taken finds its string held by no round, so its grant starts it (R145). -/
theorem placePass_service (m : MemberNo) (c : LoopCommand) (s : State) (h : (c.isConfig && nodeBusy s m) = false) :
    placePass .service m c s =
      if isReleased s ∧ s.loop.inFlight = none then
        granted (.slot .service) m c { s with loop := { s.loop with serviceSlot := .inFlight } }
      else { s with loop := { s.loop with serviceSlot := .waiting m c } } := by
  have hwait : setSlot .service (.waiting m c) s = { s with loop := { s.loop with serviceSlot := .waiting m c } } := rfl
  have hbusy : (c.isConfig && nodeBusy (setSlot .service (.waiting m c) s) m) = false := h
  have hgrant : grantService (setSlot .service (.waiting m c) s) =
      granted (.slot .service) m c { s with loop := { s.loop with serviceSlot := .inFlight } } := by
    have hslot : (setSlot .service (.waiting m c) s).loop.serviceSlot = .waiting m c := rfl
    unfold grantService
    rw [hslot]
    dsimp only
    rw [grantSlot, hbusy, startTransaction_eq]
    rfl
  unfold placePass
  dsimp only
  rw [hgrant]
  by_cases hr : isReleased s = true ∧ s.loop.inFlight = none
  · obtain ⟨h1, h2⟩ := hr
    have h1' : isReleased (setSlot .service (.waiting m c) s) = true := h1
    have h2' : (setSlot .service (.waiting m c) s).loop.inFlight = none := h2
    simp [h1, h2, h1', h2']
  · rw [if_neg hr, if_neg]
    · rfl
    · rintro ⟨-, h1, h2⟩
      exact hr ⟨h1, Option.isNone_iff_eq_none.mp h2⟩

/-- Settles O44: the order of the tables, port by port. -/
theorem slotRequestsAnswer : Obligations.SlotRequestsAnswer := by
  refine ⟨fun s tag member command data hl h => ⟨fun hnone => ?_, fun x hx => ?_⟩,
    fun s tag member command data hl h => ⟨fun hnone => ?_, fun x hx => ?_⟩, fun s tag => ⟨fun h => ?_, fun h => ?_, fun h => ?_⟩⟩
  · rw [exec_loopTransaction tag member command h rfl hl]
    simp only [answerLoopTransaction, slotPort, hnone]
    rfl
  · rw [exec_loopTransaction tag member command h rfl hl]
    have hans : answerLoopTransaction .plant member command data s = judgePass .plant x.1 x.2 s := by
      simp only [answerLoopTransaction, slotPort, hx]
    rw [hans]
    unfold judgePass
    have hslot : slotOf s .plant = s.loop.plantSlot := rfl
    cases hread : x.2.isRead
    · simp
      rfl
    · have hconfig : x.2.isConfig = false := by
        revert hread
        cases x.2 <;> simp [LoopCommand.isRead, LoopCommand.isConfig]
      by_cases hempty : s.loop.plantSlot = .empty
      · simp [hslot, hempty, hconfig, placePass_plant]
        rfl
      · simp [hslot, hempty]
        rfl
  · rw [exec_loopTransaction tag member command h rfl hl]
    simp only [answerLoopTransaction, slotPort, hnone]
    rfl
  · intro released held
    rw [exec_loopTransaction tag member command h rfl hl]
    have hans : answerLoopTransaction .service member command data s = judgePass .service x.1 x.2 s := by
      simp only [answerLoopTransaction, slotPort, hx]
    have hrel : isReleased s = released := isReleased_eq s
    have hheld : nodeBusy s x.1 = held := rfl
    have hslot : slotOf s .service = s.loop.serviceSlot := rfl
    rw [hans]
    unfold judgePass
    rw [hrel, hheld, hslot]
    by_cases hperm : (!x.2.isRead) = true ∧ (!x.2.isConfig) = true ∧ (!released) = true
    · rw [if_pos hperm, if_neg (by simp), if_pos ⟨rfl, hperm⟩]
      rfl
    · rw [if_neg hperm, if_neg (by simp), if_neg (fun hc => hperm hc.2)]
      by_cases hempty : s.loop.serviceSlot = .empty
      · rw [if_neg (not_not.mpr hempty), if_neg (not_not.mpr hempty)]
        by_cases hlock : x.2.isConfig = true ∧ held = true
        · rw [if_pos hlock, if_pos hlock]
          rfl
        · rw [if_neg hlock, if_neg hlock, placePass_service x.1 x.2 s (by rw [hheld]; simpa using hlock), hrel]
          rfl
      · rw [if_pos hempty, if_pos hempty]
        rfl
  · rw [exec_loopResult tag h rfl]
    simp only [answerLoopResult, slotPort, slotOf]
    cases s.loop.plantSlot <;> rfl
  · rw [exec_loopResult tag h rfl]
    simp only [answerLoopResult, slotPort, slotOf]
    cases s.loop.serviceSlot <;> rfl
  · change Host.Outcome.next (arrive .energy tag .loopResult s) = _
    exact congrArg Host.Outcome.next (arrive_notPermitted .energy tag _ s h (Nat.le_of_ble_eq_true rfl) rfl)

/-! ### Raw exchanges (R149, R150) -/

/-- Settles O45: LOOP RAW in the order of its checks, and what the end of collection leaves. -/
theorem rawExchangeIsCollected : Obligations.RawExchangeIsCollected := by
  refine ⟨fun s tag octets h hl => ?_, fun s p tag octets hp h hl => ?_, fun s chars sent hf => ?_, fun s chars hf => ?_⟩
  · intro released
    have hrel : isReleased s = released := isReleased_eq s
    change Host.Outcome.next (arrive .service tag (.loopRaw octets) s) = _
    have hshape : (Request.loopRaw octets).wellShaped = true ↔ ¬ (octets.length = 0 ∨ 56 < octets.length) := by
      have hshape : (Request.loopRaw octets).wellShaped = (decide (1 ≤ octets.length) && decide (octets.length ≤ 56)) := rfl
      rw [hshape, Bool.and_eq_true, decide_eq_true_eq, decide_eq_true_eq]
      omega
    by_cases hlen : octets.length = 0 ∨ 56 < octets.length
    · rw [if_pos hlen, arrive_illShaped .service tag (.loopRaw octets) s h hl rfl]
      · rfl
      · exact Bool.eq_false_iff.mpr fun hc => hshape.mp hc hlen
    · rw [if_neg hlen, arrive_owner .service tag (.loopRaw octets) s h hl rfl (hshape.mpr hlen)]
      simp only [owner, answerLoopRaw, hrel]
      cases released
      · rfl
      · by_cases hempty : s.loop.serviceSlot = .empty
        · simp only [hempty]
          rfl
        · simp only [if_pos hempty]
          rfl
  · have hperm : permitted p 0x15 = false := by
      cases p with
      | plant => rfl
      | energy => rfl
      | service => exact absurd rfl hp
    exact congrArg Host.Outcome.next (arrive_notPermitted p tag (.loopRaw octets) s h hl hperm)
  · intro got t
    have hraw : rawEnds chars s = judge (startSafe t) := by
      unfold rawEnds
      rw [hf]
      rfl
    refine ⟨fun hr => ?_, fun recorded hr => ?_⟩
    · change Host.Outcome.next (rawEnds chars s) = _
      obtain ⟨b, hb⟩ := place_released.mp hr
      have hb' : t.loop.release = .released b := hb
      rw [hraw, startSafe_of_ne (by simp [hb'])]
    · change Host.Outcome.next (rawEnds chars s) = _
      rw [hraw, startSafe_begins (s := t) hr]
  · change Host.Outcome.next (rawEnds chars s) = _
    simp [rawEnds, hf]

end Sys2Proof.Laws
end

section
/-! SUPPORT. CLEAR CHANNEL, and what a clear's transactions bring. -/

namespace Sys2Proof.Laws

open Sys2Proof.Machine

/-! ### CLEAR CHANNEL (R80, R118) -/

theorem equaliseInFlight_eq_some {s : State} {j : EqJob} :
    equaliseInFlight s = some j ↔ inFlightFor s = some (.equalise j) := by
  unfold equaliseInFlight inFlightFor
  cases s.loop.inFlight with
  | none => simp
  | some x =>
    cases x with
    | transaction t => cases hc : t.claimant <;> simp [hc]
    | poll => simp
    | raw => simp

theorem waterInFlight_eq_some {s : State} {j : WaterJob} :
    waterInFlight s = some j ↔ inFlightFor s = some (.water j) := by
  unfold waterInFlight inFlightFor
  cases s.loop.inFlight with
  | none => simp
  | some x =>
    cases x with
    | transaction t => cases hc : t.claimant <;> simp [hc]
    | poll => simp
    | raw => simp

theorem safeInFlight_eq_some {s : State} {j : SafeJob} :
    safeInFlight s = some j ↔ inFlightFor s = some (.safeState j) := by
  unfold safeInFlight inFlightFor
  cases s.loop.inFlight with
  | none => simp
  | some x =>
    cases x with
    | transaction t => cases hc : t.claimant <;> simp [hc]
    | poll => simp
    | raw => simp

theorem detachOut_eq (s : State) : detachOut s = detachIsOut s := by
  have job (x : Option EqJob) : (match x with
      | some .detach | some .faultDetach | some .clearDetach => true
      | _ => false) = decide (x = some .detach ∨ x = some .faultDetach ∨ x = some .clearDetach) := by
    cases x with
    | none => rfl
    | some j => cases j <;> simp
  have hjob : detachOut s = (decide (s.loop.claimEqualise = some .detach ∨ s.loop.claimEqualise = some .faultDetach
        ∨ s.loop.claimEqualise = some .clearDetach)
      || decide (equaliseInFlight s = some .detach ∨ equaliseInFlight s = some .faultDetach
        ∨ equaliseInFlight s = some .clearDetach)
      || safeInFlight s = some .detach || sequenceOwes .boost s) := by
    rw [← job, ← job]
    rfl
  have hstill : sequenceOwes .boost s = stillToSend .boost s := rfl
  rw [hjob, hstill, Bool.eq_iff_iff]
  simp only [detachIsOut, List.any_cons, List.any_nil, equaliseInFlight_eq_some, safeInFlight_eq_some, Bool.or_eq_true,
    decide_eq_true_eq, Bool.false_eq_true, or_false]
  tauto

theorem pumpOffOut_eq (s : State) : pumpOffOut s = pumpOffIsOut s := by
  have job (x : Option WaterJob) : (match x with
      | some .pumpOff | some .faultPumpOff | some .clearPumpOff => true
      | _ => false) = decide (x = some .pumpOff ∨ x = some .faultPumpOff ∨ x = some .clearPumpOff) := by
    cases x with
    | none => rfl
    | some j => cases j <;> simp
  have hjob : pumpOffOut s = (s.wac.clear
      || decide (s.loop.claimWater = some .pumpOff ∨ s.loop.claimWater = some .faultPumpOff
        ∨ s.loop.claimWater = some .clearPumpOff)
      || decide (waterInFlight s = some .pumpOff ∨ waterInFlight s = some .faultPumpOff
        ∨ waterInFlight s = some .clearPumpOff)
      || safeInFlight s = some .pumpOff || sequenceOwes .pumpOff s) := by
    rw [← job, ← job]
    rfl
  have hstill : sequenceOwes .pumpOff s = stillToSend .pumpOff s := rfl
  rw [hjob, hstill, Bool.eq_iff_iff]
  simp only [pumpOffIsOut, List.any_cons, List.any_nil, waterInFlight_eq_some, safeInFlight_eq_some, Bool.or_eq_true,
    decide_eq_true_eq, Bool.false_eq_true, or_false]
  tauto

theorem exec_clearEqualise {s : State} (tag : Octet) (h : hears .service s) :
    let a := answerClearEqualise s
    exec (.clearChannelEqualise .service tag) s = .next (owing .service 0x12 tag a.status a.results a.state) := by
  change Host.Outcome.next (arrive .service tag (.clearChannel 0) s) = _
  rw [arrive_owner .service tag (.clearChannel 0) s h (Nat.le_of_ble_eq_true rfl) rfl rfl]
  rfl

theorem exec_clearWater {s : State} (tag : Octet) (h : hears .service s) :
    let a := answerClearWater s
    exec (.clearChannelWater .service tag) s = .next (owing .service 0x12 tag a.status a.results a.state) := by
  change Host.Outcome.next (arrive .service tag (.clearChannel 1) s) = _
  rw [arrive_owner .service tag (.clearChannel 1) s h (Nat.le_of_ble_eq_true rfl) rfl rfl]
  rfl

theorem valve_of_holds {s : State} {i : StringNo} (h : s.wac.valve.holds i) : ∃ b, s.wac.valve = .names i b := by
  cases hv : s.wac.valve with
  | empty => rw [hv] at h; cases h
  | names j b =>
    rw [hv] at h
    exact ⟨b, by rw [of_decide_eq_true h]⟩

/-- A string whose valve a clear could not close: released marked CLOSE FAILED where it is held, barred where it is not
(R118). -/
def closeFailedOn (i : StringNo) (u : State) : State :=
  match (recordOf u i).state with
  | .water b =>
    let v := modString i (fun r => { r with state := .barred .closeFailed }) u
    if b = none then removeBarred i v else v
  | _ => bar i .closeFailed u

theorem clearCloseEnded_failed {s : State} {i : StringNo} {o : TxOutcome} (hfail : ∀ d, o ≠ .answer d)
    (h : s.wac.valve.holds i) : clearCloseEnded i o s = waterClearFails (closeFailedOn i (setValve (.names i false) s)) := by
  obtain ⟨b, hv⟩ := valve_of_holds h
  have hu : setValve s.wac.valve.unconfirm s = setValve (.names i false) s := by rw [hv]; rfl
  have hclose : clearCloseEnded i o s = waterClearFails (if (recordOf s i).state.holder = .wac then
      releaseString i (some .closeFailed) none (setValve (.names i false) s)
      else bar i .closeFailed (setValve (.names i false) s)) := by
    rcases failed_cases hfail with ⟨c, rfl⟩ | rfl | rfl | rfl <;> simp only [clearCloseEnded, hu]
  have hsame : recordOf (setValve (.names i false) s) i = recordOf s i := rfl
  rw [hclose]
  refine congrArg waterClearFails ?_
  unfold closeFailedOn releaseString
  rw [hsame]
  cases hst : (recordOf s i).state
  case water p => cases p <;> rfl
  all_goals rfl

theorem clearCloseEnded_answer (s : State) (i : StringNo) (data : List Octet) :
    clearCloseEnded i (.answer data) s =
      waterClearDone (match (recordOf s i).state with
        | .water b => setStringState i (releasedState b none none) (setValve .empty s)
        | _ => setValve .empty s) := by
  have hsame : recordOf (setValve .empty s) i = recordOf s i := rfl
  unfold clearCloseEnded
  dsimp only
  refine congrArg waterClearDone ?_
  unfold releaseString
  rw [hsame]
  cases (recordOf s i).state <;> rfl

/-- Settles O46: the answers by the channel's state, and the clear's transactions by their outcomes. -/
theorem clearChannelAnswers : Obligations.ClearChannelAnswers := by
  refine ⟨fun s tag h => ⟨fun hst => ?_, fun hst => ?_, fun hst => ?_, fun hst => ?_⟩, fun s data hst => ⟨?_, fun o hfail => ?_⟩⟩
  · rw [exec_clearEqualise tag h, answerClearEqualise, if_pos hst]
    rfl
  · rw [exec_clearEqualise tag h, answerClearEqualise, if_neg (not_not.mpr hst), detachOut_eq]
    split <;> rfl
  · rw [exec_clearWater tag h, answerClearWater, if_pos hst]
    rfl
  · rw [exec_clearWater tag h, answerClearWater, if_neg (not_not.mpr hst), pumpOffOut_eq]
    split <;> rfl
  · rfl
  · intro u
    refine ⟨by rcases failed_cases hfail with ⟨c, rfl⟩ | rfl | rfl | rfl <;> rfl, ?_⟩
    clear hst hfail u
    intro s data o i off idle
    refine ⟨fun hv => ?_, fun hv => ?_, ?_, fun hfail => ⟨?_, fun hv => ?_⟩⟩
    · obtain ⟨b, hv⟩ := valve_of_holds hv
      have hset : (setPump .off s).wac.valve = .names i b := hv
      simp only [clearPumpOffEnded, hset]
      rfl
    · have hset : (setPump .off s).wac.valve = .empty := hv
      simp only [clearPumpOffEnded, hset]
      rfl
    · rw [clearCloseEnded_answer]
      cases (recordOf s i).state
      case water b => cases b <;> rfl
      all_goals rfl
    · have : clearPumpOffEnded o s = waterClearFails (if s.wac.pump = .off then s else setPump .onUnconfirmed s) := by
        rcases failed_cases hfail with ⟨c, rfl⟩ | rfl | rfl | rfl <;> rfl
      rw [this]
      by_cases hp : s.wac.pump = .off
      · simp only [if_pos hp]
        simp [waterClearFails, raise_eq, modWac, hp]
      · simp only [if_neg hp]
        rfl
    · rw [clearCloseEnded_failed hfail hv]
      rfl

end Sys2Proof.Laws
end

section
/-! SUPPORT. The Demand Unit's claim, and the end of a poll. -/

namespace Sys2Proof.Laws

open Sys2Proof.Machine

/-! ### The Demand Unit's claim (R154, R158) -/

theorem configInFlight_eq_some {s : State} {i : StringNo} :
    configInFlight s = some i ↔ inFlightFor s = some (.reconfiguration i) := by
  unfold configInFlight inFlightFor
  cases s.loop.inFlight with
  | none => simp
  | some x =>
    cases x with
    | transaction t => cases hc : t.claimant <;> simp [hc]
    | poll => simp
    | raw => simp

/-- The judgement of the claim, by whether a reconfiguration write is in flight. -/
def claimJudged (writing : Bool) (s : State) : State :=
  if writing ∨ s.demand.poll = .claimed ∨ s.demand.poll = .inFlight then s
  else if s.demand.poll = .idle ∧ (s.demand.line ∨ s.demand.owed.isSome) then
    { s with
      demand := { s.demand with poll := .claimed }
      loop := { s.loop with claimDemand := some .poll } }
  else
    { s with loop := { s.loop with claimDemand :=
        match s.loop.claimDemand with
        | some j => some j
        | none => (configDue s).map .config } }

theorem demandClaim_eq (s : State) : demandClaim s = claimJudged (configInFlight s).isSome s := by
  refine congrArg (claimJudged · s) ?_
  unfold configInFlight
  cases s.loop.inFlight with
  | none => rfl
  | some x =>
    cases x with
    | transaction t => dsimp only; cases t.claimant <;> rfl
    | poll => rfl
    | raw => rfl

/-- The lowest address due is claimed where no claim is pending. -/
theorem configClaim_eq (s : State) :
    (match s.loop.claimDemand, configDue s with
      | none, some i => modLoop (fun l => { l with claimDemand := some (.config i) }) s
      | _, _ => s) =
      { s with loop := { s.loop with claimDemand := match s.loop.claimDemand with
        | some j => some j
        | none => (configDue s).map .config } } := by
  cases hc : s.loop.claimDemand with
  | some j => simp only [← hc]
  | none =>
    cases hd : configDue s with
    | none => simp only [Option.map_none, ← hc]
    | some i => rfl

/-- The judgement of the claim, in the terms of the clause. -/
theorem judgeDemand_eq (s : State) : judgeDemand s = demandClaim s := by
  rw [demandClaim_eq]
  unfold judgeDemand claimJudged
  generalize (configInFlight s).isSome = writing
  cases writing
  · rw [if_neg (by simp)]
    cases hp : s.demand.poll
    · by_cases hw : pollWanted s = true
      · have hw' : s.demand.line = true ∨ s.demand.owed.isSome = true := by simpa [pollWanted] using hw
        simp only [hw, hw', reduceCtorEq, Bool.false_eq_true, or_self, if_false, and_self, if_true]
        rfl
      · have hw' : ¬ (s.demand.line = true ∨ s.demand.owed.isSome = true) := by simpa [pollWanted] using hw
        simp only [hw, hw', reduceCtorEq, Bool.false_eq_true, or_self, if_false, and_false]
        exact configClaim_eq s
    all_goals simp only [reduceCtorEq, or_true, true_or, if_true, false_and, Bool.false_eq_true, or_self, if_false]
    exact configClaim_eq s
  · simp

/-- Settles O47: each event is the judgement of the claim, and a write's end sets the wait. -/
theorem demandClaimIsJudged : Obligations.DemandClaimIsJudged := by
  intro s
  refine ⟨fun level => ?_, ?_, fun i => ⟨?_, fun data o => ?_⟩⟩
  · exact congrArg Host.Outcome.next (judgeDemand_eq _)
  · change Host.Outcome.next (spacingEnds s) = _
    simp only [spacingEnds, judgeDemand_eq]
    rfl
  · change Host.Outcome.next (takeWaitEnd i s) = _
    simp only [takeWaitEnd, judgeDemand_eq]
  · intro wait
    refine ⟨fun hr => ?_, fun hr => ?_, fun hr hfail => ?_⟩
    · simp only [configEnded, hr, if_true]
      rfl
    · simp only [configEnded, hr, Bool.false_eq_true, if_false]
      rfl
    · have : configEnded i o s = setWait i (some Config.reconfigurationWait)
          (modDemand (fun d => { d with rewrite := false }) s) := by
        rcases failed_cases hfail with ⟨c, rfl⟩ | rfl | rfl | rfl <;> simp [configEnded, hr]
      rw [this]
      rfl

/-! ### The end of a poll (R156) -/

theorem pollInFlight_of_poll {s : State} {conf : Option (MemberNo × DemandKind)} (h : s.loop.inFlight = some (.poll conf)) :
    pollInFlight s = true := by
  simp [pollInFlight, h]

theorem ofCode_none {k : Octet} (h : k = 0 ∨ 8 ≤ k.toNat) : DemandKind.ofCode k = none := by
  revert k
  decide

theorem readPoll_spoiled (cs : List LineChar) (h : cs.any LineChar.spoiled = true) : readPoll cs = .failed := by
  unfold readPoll
  simp [h]

/-- Settles O48: the poll's end by what the return reads as. -/
theorem pollReturns : Obligations.PollReturns := by
  refine ⟨fun s owed w a b c chars conf hf => ?_, fun s chars hf => ?_⟩
  · intro free returned failed spoilt
    have hfly := pollInFlight_of_poll hf
    have hreturn (l : List Octet) (hne : l ≠ []) : Machine.pollReturns (onLine l) s = endPoll (readPoll (onLine l)) s := by
      have : (onLine l).isEmpty = false := by simp [onLine, hne]
      simp [Machine.pollReturns, hfly, this]
    have hframe (v : List Octet) : returnedPoll owed v ≠ [] := by simp [returnedPoll]
    have hfailed : endPoll .failed s = failed := rfl
    refine ⟨?_, ?_, fun h => ?_, ?_, ?_, ?_⟩
    · change Host.Outcome.next (Machine.pollReturns _ s) = _
      rw [hreturn _ (hframe _), readPoll_returned]
      rfl
    · change Host.Outcome.next (Machine.pollReturns _ s) = _
      rw [hreturn _ (hframe _), readPoll_word]
      rfl
    · change Host.Outcome.next (Machine.pollReturns _ s) = _
      have hread : readPoll (onLine (returnedPoll owed [a, b, c, 0])) = .failed := by
        rw [readPoll_returned]
        rcases h with ⟨hlt, hne⟩ | ⟨hne, hk⟩
        · rw [if_neg hne, dif_neg (Nat.not_lt.mpr hlt)]
        · rw [if_neg hne]
          split
          · simp only [ofCode_none hk]
          · rfl
      rw [hreturn _ (hframe _), hread, hfailed]
    · change Host.Outcome.next (Machine.pollReturns (spoilt :: chars) s) = _
      have htaken : loopChars (spoilt :: chars) = spoilt :: loopChars chars := by
        have : spoilt.taken = true := by simp only [spoilt]; decide
        simp [loopChars, this]
      have hspoilt : (spoilt :: loopChars chars).any LineChar.spoiled = true := by
        have : spoilt.spoiled = true := by simp only [spoilt]; decide
        simp [this]
      simp only [Machine.pollReturns, hfly, htaken, readPoll_spoiled _ hspoilt, hfailed]
      rfl
    · change Host.Outcome.next (pollTimedOut s) = _
      rw [pollTimedOut, if_pos hfly, hfailed]
    · change Host.Outcome.next (replyGap s) = _
      rw [replyGap, if_pos hfly, hfailed]
  · have hfly : pollInFlight s = false := by simp [pollInFlight, hf]
    refine ⟨?_, ?_⟩
    · change Host.Outcome.next (Machine.pollReturns chars s) = _
      simp [Machine.pollReturns, hfly]
    · change Host.Outcome.next (pollTimedOut s) = _
      simp [pollTimedOut, hfly]

end Sys2Proof.Laws
end

section
/-! SUPPORT. What a demand does, and the Demand FIFO. -/

namespace Sys2Proof.Laws

open Sys2Proof.Machine

/-! ### What a demand does (R157, R158) -/

theorem stringOf_node (i : StringNo) : stringOf (nodeOf i) = some i := by
  simp [stringOf, nodeOf]

theorem decideOnString_eq (i : StringNo) (o : EqOutcome) (s : State) :
    decideOnString i o s = if (s.eqc.round.map fun r => r.string) = some i then decideEqualise o s else s := by
  unfold decideOnString
  cases s.eqc.round with
  | none => rfl
  | some r => by_cases h : r.string = i <;> simp [h]

theorem decideDoseOn_eq (i : StringNo) (o : WaterOutcome) (s : State) :
    decideDoseOn i o s = if (s.wac.dose.map fun d => d.string) = some i then decideWater o s else s := by
  unfold decideDoseOn
  cases s.wac.dose with
  | none => rfl
  | some d => by_cases h : d.string = i <;> simp [h]

/-- A restarted node is listed, and a write of it in flight counts for nothing (R158). -/
theorem listRestarted_eq (i : StringNo) (s : State) : listRestarted i s = restarted i s := by
  have hwriting : (configInFlight s = some i) ↔ (match s.loop.inFlight with
      | some (.transaction t) => decide (t.claimant = .reconfiguration i)
      | _ => false) = true := by
    rw [configInFlight_eq_some]
    unfold inFlightFor
    cases s.loop.inFlight with
    | none => simp
    | some x => cases x <;> simp
  have hlist (b : Bool) : (if b = true then modDemand (fun d => { d with rewrite := true }) (setWait i (some 0) s)
      else setWait i (some 0) s) = { s with demand := { s.demand with
        list := s.demand.list.set i (some 0), rewrite := s.demand.rewrite || b } } := by
    cases b
    · simp only [Bool.false_eq_true, if_false, Bool.or_false]
      rfl
    · simp only [if_true, Bool.or_true]
      rfl
  unfold listRestarted
  dsimp only
  rw [if_congr hwriting rfl rfl]
  exact hlist _

/-- A BOOST FAULT or a NODE RESTART of the Boost Unit, in one piece (R79). -/
theorem boostDistrusted_eq (c : Cause) (s : State) :
    boostDistrusted c s =
      if s.eqc.state = .fault then s
      else if s.eqc.state = .idle then
        raiseAll Notice.channelFault.mask { s with
          eqc := { s.eqc with state := .fault }
          loop := { s.loop with claimEqualise := some .faultDetach } }
      else decideEqualise (.aborted c)
        { s with eqc := { s.eqc with round := s.eqc.round.map fun r => { r with faultAtEnd := true } } } := by
  unfold boostDistrusted
  cases s.eqc.state <;> rfl

theorem decideWater_of_closed {s : State} {o : WaterOutcome} (h : openDose s = none) : decideWater o s = s := by
  simp [decideWater, h]

/-- The fault mark opens no dose. -/
theorem openDose_marked {s : State} (h : openDose s = none) :
    openDose { s with wac := { s.wac with dose := s.wac.dose.map fun d => { d with faultAtEnd := true } } } = none := by
  unfold openDose at h ⊢
  cases hd : s.wac.dose with
  | none => cases s.wac.state <;> rfl
  | some d =>
    rw [hd] at h
    cases hs : s.wac.state <;> simp_all

/-- Settles O49: the action by kind and source. -/
theorem demandActs : Obligations.DemandActs := by
  intro s i v word onRound onDose marked boost
  have node (k : DemandKind) : demandAction (word (nodeOf i) k) s = nodeDemand i k s := by
    simp only [demandAction, word, stringOf_node]
  have boosted (k : DemandKind) : demandAction (word boostUnit k) s = boostDemand k s := rfl
  have watered (k : DemandKind) : demandAction (word waterUnit k) s = waterDemand k s := rfl
  refine ⟨?_, ?_, ?_, ?_, fun k hk => ?_, ?_, ?_, fun k hk => ?_, rfl, ?_, fun k hk => ?_, fun h => ?_, ?_, fun h => ?_⟩
  · rw [node]
    rfl
  · rw [node]
    exact decideOnString_eq i _ s
  · rw [node]
    rfl
  · have hdose : (decideOnString i (.aborted .nodeRestart) s).wac = s.wac := by
      rw [decideOnString_eq]
      split <;> simp
    rw [node]
    change listRestarted i (decideDoseOn i _ (decideOnString i _ s)) = _
    rw [listRestarted_eq, decideDoseOn_eq, hdose, decideOnString_eq]
  · rw [node]
    rcases hk with rfl | rfl | rfl <;> rfl
  · rw [boosted]
    exact boostDistrusted_eq _ s
  · rw [boosted]
    exact boostDistrusted_eq _ s
  · obtain ⟨h1, h2⟩ := hk
    rw [boosted]
    cases k <;> simp [boostDemand] at h1 h2 ⊢
  · rw [watered]
    change setReservoirLow s = _
    by_cases hlow : s.wac.reservoirLow
    · simp [setReservoirLow, modWac, hlow]
    · simp [setReservoirLow, modWac, hlow]
  · obtain ⟨h1, h2, h3⟩ := hk
    rw [watered]
    cases k <;> simp [waterDemand] at h1 h2 h3 ⊢
  · rw [watered]
    change flowLeak s = _
    simp [flowLeak, h]
  · intro leaked
    have hleak (h1 : s.wac.state ≠ .idle) (h2 : s.wac.state ≠ .fault) :
        flowLeak s = decideWater (.aborted .flowLeak) leaked := by
      unfold flowLeak
      split
      · rename_i hst
        exact absurd hst h1
      · rename_i hst
        exact absurd hst h2
      · rfl
    refine ⟨fun hopen => ?_, fun hshut h1 h2 => ?_⟩
    · obtain ⟨d, hd⟩ := Option.isSome_iff_exists.mp hopen
      obtain ⟨-, -, h1, h2, -⟩ := Basic.openDose_eq_some hd
      rw [watered]
      exact hleak h1 h2
    · rw [watered]
      refine (hleak h1 h2).trans (decideWater_of_closed ?_)
      exact openDose_marked hshut
  · rw [watered]
    change flowLeak s = _
    have : flowLeak s = claimWater .faultPumpOff (enterWacFault s) := by simp only [flowLeak, h]
    rw [this, enterWacFault_eq]
    rfl

/-! ### The Demand FIFO (R159, R160) -/

theorem exec_readDemands {s : State} (tag : Octet) (h : hears .service s) :
    let a := answerReadDemands s
    exec (.readDemands .service tag) s = .next (owing .service 0x16 tag a.status a.results a.state) := by
  change Host.Outcome.next (arrive .service tag .readDemands s) = _
  rw [arrive_owner .service tag .readDemands s h (Nat.le_of_ble_eq_true rfl) rfl rfl]
  rfl

theorem exec_clearOverflow {s : State} (tag : Octet) (h : hears .service s) :
    let a := answerClearOverflow s
    exec (.clearOverflow .service tag) s = .next (owing .service 0x17 tag a.status a.results a.state) := by
  change Host.Outcome.next (arrive .service tag .clearOverflow s) = _
  rw [arrive_owner .service tag .clearOverflow s h (Nat.le_of_ble_eq_true rfl) rfl rfl]
  rfl

theorem fifoFields_presence (l : List FifoEntry) :
    (l.flatMap fifoFields).flatMap Field.presence = l.map fun e => e.time.isSome := by
  induction l with
  | nil => rfl
  | cons e l ih =>
    have he : (fifoFields e).flatMap Field.presence = [e.time.isSome] := by
      simp [fifoFields, stampField, Field.presence]
    simp only [List.flatMap_cons, List.flatMap_append, List.map_cons, ih, he, List.singleton_append]

theorem fifoFields_octets (l : List FifoEntry) :
    (l.flatMap fifoFields).flatMap Field.octets = l.flatMap fun e => e.word.octets ++ octetsOfQuad (e.time.getD 0) := by
  induction l with
  | nil => rfl
  | cons e l ih =>
    have he : (fifoFields e).flatMap Field.octets = e.word.octets ++ octetsOfQuad (e.time.getD 0) := by
      have hstamp : (stampField e.time).octets = octetsOfQuad (e.time.getD 0) := by
        unfold stampField
        cases e.time <;> rfl
      simp only [fifoFields, List.flatMap_cons, List.flatMap_nil, List.append_nil, hstamp]
      rfl
    simp only [List.flatMap_cons, List.flatMap_append, ih, he]

/-- Settles O50: the word's place in the FIFO, and the two requests of Port S. -/
theorem fifoTakesAndGives : Obligations.FifoTakesAndGives := by
  refine ⟨fun s w => ?_, fun s p tag hp h => ?_, fun s tag h => ⟨?_, ?_⟩⟩
  · intro u
    change appendDemand w u = _
    unfold appendDemand appendEntry dropDemand
    simp only [List.isEmpty_iff]
    rfl
  · have hperm : permitted p 0x16 = false ∧ permitted p 0x17 = false := by
      cases p with
      | plant => exact ⟨rfl, rfl⟩
      | energy => exact ⟨rfl, rfl⟩
      | service => exact absurd rfl hp
    obtain ⟨h1, h2⟩ := hperm
    exact ⟨congrArg Host.Outcome.next (arrive_notPermitted p tag .readDemands s h (Nat.le_of_ble_eq_true rfl) h1),
      congrArg Host.Outcome.next (arrive_notPermitted p tag .clearOverflow s h (Nat.le_of_ble_eq_true rfl) h2)⟩
  · intro taken rest
    have hres : readDemandsResults taken { s.demand with fifo := rest } =
        packBits (taken.map fun e => e.time.isSome) ++ enc1 taken.length
          ++ taken.flatMap (fun e => e.word.octets ++ octetsOfQuad (e.time.getD 0))
          ++ enc1 rest.length ++ encFlag s.demand.overflow ++ enc1 s.demand.dropped := by
      simp only [readDemandsResults, results, List.flatMap_append, fifoFields_presence, fifoFields_octets]
      simp [Field.presence, Field.octets]
    rw [exec_readDemands tag h, ← hres]
    rfl
  · rw [exec_clearOverflow tag h, answerClearOverflow]
    split <;> rfl

end Sys2Proof.Laws
end

section
/-! SUPPORT. The reads, notices, store, clock and segments. -/

namespace Sys2Proof.Laws

open Sys2Proof.Machine

/-! ### The reads (R18, R57, R132, R161, R169, R173, R175) -/

theorem permitted_common {p : Port} {code : Octet} (h1 : 7 ≤ code.toNat) (h2 : code.toNat ≤ 0x0B) :
    permitted p code = true := by
  have h3 : code.toNat ≤ 0x0D := by omega
  have h4 : code.toNat ≤ 0x1E := by omega
  cases p <;> simp [permitted, h1, h2, h3, h4]

theorem finOf_of_lt {n : Nat} {o : Octet} (h : o.toNat < n) : finOf n o = some ⟨o.toNat, h⟩ := dif_pos h

/-- The nominal energies of the EQUALISE entries are all that the queue adds (R132). -/
theorem energies_sum (f : QueueEntry → Nat) (l : List QueueEntry) (h : ∀ e, e.kind ≠ .equalise → f e = 0) :
    (l.map f).sum = ((l.filter fun e => e.kind = .equalise).map f).sum := by
  induction l with
  | nil => rfl
  | cons e l ih =>
    by_cases he : e.kind = .equalise
    · simp [he, ih]
    · simp [he, ih, h e he]

/-- Settles O51: each read is its owner's answer, which leaves the state. -/
theorem readsChangeNothing : Obligations.ReadsChangeNothing := by
  intro s tag
  refine ⟨fun p h => ?_, fun h => ?_, fun h g i => ?_, fun h i x => ?_⟩
  · have rounds (n : Octet) (hn : n.toNat ≤ 5) : arrive p tag (.readRounds n) s =
        owing p 0x08 tag (answerReadRounds n s).status (answerReadRounds n s).results (answerReadRounds n s).state :=
      arrive_owner p tag (.readRounds n) s h (Nat.le_of_ble_eq_true rfl)
        (permitted_common (Nat.le_of_ble_eq_true rfl) (Nat.le_of_ble_eq_true rfl)) (decide_eq_true hn)
    refine ⟨fun i => ?_, congrArg Host.Outcome.next (rounds 0 (by decide)), congrArg Host.Outcome.next (rounds 1 (by decide)),
      congrArg Host.Outcome.next (rounds 2 (by decide)), congrArg Host.Outcome.next (rounds 3 (by decide)),
      congrArg Host.Outcome.next (rounds 4 (by decide)), congrArg Host.Outcome.next (rounds 5 (by decide)), ?_⟩
    · change Host.Outcome.next (arrive p tag (.readString i) s) = _
      rw [arrive_owner p tag (.readString i) s h (Nat.le_of_ble_eq_true rfl)
        (permitted_common (Nat.le_of_ble_eq_true rfl) (Nat.le_of_ble_eq_true rfl)) rfl]
      simp only [owner, answerReadString]
      cases finOf 8 i <;> rfl
    · exact congrArg Host.Outcome.next (arrive_owner p tag .readNotices s h (Nat.le_of_ble_eq_true rfl)
        (permitted_common (Nat.le_of_ble_eq_true rfl) (Nat.le_of_ble_eq_true rfl)) rfl)
  · have hsum : energyEstimate s = ((s.queue.filter fun e => e.kind = .equalise).map (entryEnergy s)).sum
        + runningEnergy s := by
      rw [energyEstimate, energies_sum (entryEnergy s) s.queue fun e he => ?_]
      unfold entryEnergy
      cases hw : e.work with
      | equalise n => exact absurd (by rw [QueueEntry.kind, hw]; rfl) he
      | water n => rfl
    have hans : exec (.readForecast .energy tag) s = .next (owing .energy 0x06 tag .done (forecastResults s) s) :=
      congrArg Host.Outcome.next (arrive_owner .energy tag .readForecast s h (Nat.le_of_ble_eq_true rfl) rfl rfl)
    refine hans.trans (congrArg (fun l => Host.Outcome.next (owing .energy 0x06 tag .done l s)) ?_)
    rw [forecastResults, hsum]
    simp only [windowOctets, ← List.append_assoc]
    rfl
  · change Host.Outcome.next (arrive .service tag (.readLogRecord g i) s) = _
    rw [arrive_owner .service tag (.readLogRecord g i) s h (Nat.le_of_ble_eq_true rfl) rfl rfl]
    have hans : owner .service (.readLogRecord g i) s = answerReadLog g i s := rfl
    rw [hans]
    by_cases hin : g.toNat < 4 ∧ i.toNat < 16
    · rw [dif_pos hin]
      obtain ⟨hg, hi⟩ := hin
      have place (x : Option LogRecord) :
          (let a := match x with
            | some r => doneWith (recordResults r s.log) s
            | none => refuse .notFound s
          owing .service 0x18 tag a.status a.results a.state) =
            match x with
            | some r => owing .service 0x18 tag .done (recordResults r s.log) s
            | none => owing .service 0x18 tag .notFound [] s := by
        cases x <;> rfl
      simp only [answerReadLog, finOf_of_lt hg, finOf_of_lt hi]
      exact congrArg Host.Outcome.next (place _)
    · rw [dif_neg hin]
      have : answerReadLog g i s = refuse .range s := by
        unfold answerReadLog
        by_cases hg : g.toNat < 4
        · rw [finOf_eq_none 16 i (by omega)]
          cases finOf 4 g <;> rfl
        · rw [finOf_eq_none 4 g (by omega)]
      rw [this]
      rfl
  · change Host.Outcome.next (arrive .service tag (.readSetting i x) s) = _
    rw [arrive_owner .service tag (.readSetting i x) s h (Nat.le_of_ble_eq_true rfl) rfl rfl]
    simp only [owner, answerReadSetting]
    cases Setting.named i x <;> rfl

/-! ### Notices (R168, R169) -/

theorem raiseAll_get (m : NoticeSet) (p : Port) (s : State) :
    (raiseAll m s).ports.get p = { s.ports.get p with pending := (s.ports.get p).pending ||| m } := by
  cases p <;> rfl

theorem wellShaped_mask (mask : Half) : (decide (mask.toNat < 4096)) = true ↔ ¬ 4096 ≤ mask.toNat := by
  rw [decide_eq_true_eq]
  omega

/-- Every bit of a notice set is the bit of a source. -/
theorem exists_notice {k : Nat} (h : k < 12) : ∃ n : Notice, n.bit = k := by
  match k, h with
  | 0, _ => exact ⟨.roundEnded, rfl⟩
  | 1, _ => exact ⟨.roundPaused, rfl⟩
  | 2, _ => exact ⟨.windowNeeded, rfl⟩
  | 3, _ => exact ⟨.demandPending, rfl⟩
  | 4, _ => exact ⟨.demandOverflow, rfl⟩
  | 5, _ => exact ⟨.segmentFull, rfl⟩
  | 6, _ => exact ⟨.logOverrun, rfl⟩
  | 7, _ => exact ⟨.channelFault, rfl⟩
  | 8, _ => exact ⟨.loopResultReady, rfl⟩
  | 9, _ => exact ⟨.settingsStored, rfl⟩
  | 10, _ => exact ⟨.plantStale, rfl⟩
  | 11, _ => exact ⟨.cellAlarm, rfl⟩

theorem attention_iff (u : PortUnit) :
    u.attention = true ↔ ∃ n : Notice, u.pending.getLsbD n.bit = true ∧ u.enabled.getLsbD n.bit = true := by
  rw [PortUnit.attention, decide_eq_true_eq]
  constructor
  · intro hne
    by_contra hno
    refine hne (BitVec.eq_of_getLsbD_eq fun k hk => ?_)
    obtain ⟨n, rfl⟩ := exists_notice hk
    have hboth : (u.pending.getLsbD n.bit && u.enabled.getLsbD n.bit) = false := by
      rw [Bool.eq_false_iff]
      exact fun hc => hno ⟨n, (Bool.and_eq_true_iff.mp hc).1, (Bool.and_eq_true_iff.mp hc).2⟩
    simpa using hboth
  · rintro ⟨n, hp, he⟩ hzero
    have := congrArg (BitVec.getLsbD · n.bit) hzero
    simp [hp, he] at this

/-- Settles O52: the two requests at the one port, a raise at every port, and the attention line bit by bit. -/
theorem noticesAreAnswered : Obligations.NoticesAreAnswered := by
  intro s p tag mask h u
  refine ⟨fun hbad => ⟨?_, ?_⟩, fun hgood => ?_, fun sources => raiseAll_get sources p s, attention_iff u⟩
  · have hw : (Request.ackNotices mask).wellShaped = false := decide_eq_false (Nat.not_lt.mpr hbad)
    exact congrArg Host.Outcome.next (arrive_illShaped p tag (.ackNotices mask) s h (Nat.le_of_ble_eq_true rfl)
      (permitted_common (Nat.le_of_ble_eq_true rfl) (Nat.le_of_ble_eq_true rfl)) hw)
  · have hw : (Request.setNoticeEnables mask).wellShaped = false := decide_eq_false (Nat.not_lt.mpr hbad)
    exact congrArg Host.Outcome.next (arrive_illShaped p tag (.setNoticeEnables mask) s h (Nat.le_of_ble_eq_true rfl)
      (permitted_common (Nat.le_of_ble_eq_true rfl) (Nat.le_of_ble_eq_true rfl)) hw)
  · intro m
    refine ⟨?_, ?_⟩
    · change Host.Outcome.next (arrive p tag (.ackNotices mask) s) = _
      rw [arrive_owner p tag (.ackNotices mask) s h (Nat.le_of_ble_eq_true rfl)
        (permitted_common (Nat.le_of_ble_eq_true rfl) (Nat.le_of_ble_eq_true rfl)) (decide_eq_true hgood)]
      have hrest : u.pending &&& ~~~(u.pending &&& m) = u.pending &&& ~~~m := by
        ext k hk
        cases hp : u.pending[k] <;> simp [hp]
      have hans : (owner p (.ackNotices mask) s).state =
          { s with ports := s.ports.put p { u with pending := u.pending &&& ~~~m } } := by
        rw [← hrest]
        rfl
      rw [hans]
      rfl
    · change Host.Outcome.next (arrive p tag (.setNoticeEnables mask) s) = _
      rw [arrive_owner p tag (.setNoticeEnables mask) s h (Nat.le_of_ble_eq_true rfl)
        (permitted_common (Nat.le_of_ble_eq_true rfl) (Nat.le_of_ble_eq_true rfl)) (decide_eq_true hgood)]
      have hoctets : noticeOctets (mask.setWidth 12) = octetsOfHalf mask := by
        unfold noticeOctets
        congr 1
        apply BitVec.eq_of_toNat_eq
        simp
        omega
      have hans : (owner p (.setNoticeEnables mask) s).results = octetsOfHalf mask := hoctets
      rw [hans]
      rfl

/-! ### Store, clock and segments (R173, R176, R178) -/

/-- Settles O56: the four requests by their owners, and completion as the store does it. -/
theorem storeClockAndSegment : Obligations.StoreClockAndSegment := by
  refine ⟨fun s tag h => ⟨?_, fun t => ?_, fun g hg => ?_, fun g => ?_⟩, fun s => ?_⟩
  · change Host.Outcome.next (arrive .service tag .storeSettings s) = _
    rw [arrive_owner .service tag .storeSettings s h (Nat.le_of_ble_eq_true rfl) rfl rfl]
    simp only [owner, answerStoreSettings]
    split <;> rfl
  · exact congrArg Host.Outcome.next
      (arrive_owner .service tag (.setClock t) s h (Nat.le_of_ble_eq_true rfl) rfl rfl)
  · change Host.Outcome.next (arrive .service tag (.releaseSegment g) s) = _
    rw [arrive_owner .service tag (.releaseSegment g) s h (Nat.le_of_ble_eq_true rfl) rfl rfl]
    simp only [owner, answerReleaseSegment, finOf_eq_none 4 g hg]
    rfl
  · change Host.Outcome.next (arrive .service tag (.releaseSegment (BitVec.ofNat 8 g.val)) s) = _
    rw [arrive_owner .service tag (.releaseSegment (BitVec.ofNat 8 g.val)) s h (Nat.le_of_ble_eq_true rfl) rfl rfl]
    simp only [owner, answerReleaseSegment, finOf_ofNat 4 (by decide) g]
    split <;> rfl
  · rfl

end Sys2Proof.Laws
end

section
/-! SUPPORT. A character at a port, and frames that fail. -/

namespace Sys2Proof.Laws

open Sys2Proof.Machine

/-! ### A character at a port (R164) -/

/-- A character whose stop bit is read low: its octet with the mark (R135). -/
theorem spoilt_read (o : Octet) :
    let c : LineChar := { LineChar.clean o with stop := 0 }
    c.taken = true ∧ c.octet = o ∧ c.spoiled = true := by
  intro c
  have hstop : majority c.stop = false := by
    change majority 0 = false
    decide
  exact ⟨clean_taken o, clean_octet o, by simp [LineChar.spoiled, hstop]⟩

section
variable {s : State} {p : Port} {c : LineChar}

theorem receiveChar_hunt (h : rxOf s p = .hunt) (hc : c.taken = true) :
    receiveChar p c s = if c.octet = 0xA5 ∧ c.spoiled = false then setRx p (.frame none [] false) s else s := by
  simp [receiveChar, hc, h]

theorem receiveChar_frame {l : Option Octet} {b : List Octet} {sp : Bool} (h : rxOf s p = .frame l b sp)
    (hc : c.taken = true) : receiveChar p c s = frameOctet p l b (sp || c.spoiled) c.octet s := by
  simp [receiveChar, hc, h]

theorem receiveChar_resync (h : rxOf s p = .resync) : receiveChar p c s = s := by
  simp [receiveChar, h]

theorem receiveChar_owed {r : Reply} (h : rxOf s p = .replyOwed r) : receiveChar p c s = s := by
  simp [receiveChar, h]

theorem badFrame_of_resync {cs : List LineChar} (hs : rxOf s p = .hunt ∨ ∃ l b sp, rxOf s p = .frame l b sp)
    (h : rxOf (receiveChars p cs s) p = .resync) : badFrame p cs s = setRx p .resync s := by
  unfold badFrame
  rcases hs with hs | ⟨l, b, sp, hs⟩ <;> simp [hs, h]

end

theorem frameOctet_length (p : Port) (b : List Octet) (sp : Bool) (o : Octet) (s : State) :
    frameOctet p none b sp o s =
      if o.toNat < 2 ∨ 64 < o.toNat then setRx p .resync s else setRx p (.frame (some o) [] sp) s := by
  simp [frameOctet, badLength]

theorem frameOctet_body (p : Port) {n : Octet} {b : List Octet} (sp : Bool) (o : Octet) (s : State)
    (h : b.length < n.toNat) : frameOctet p (some n) b sp o s = setRx p (.frame (some n) (b ++ [o]) sp) s := by
  have : ¬ n.toNat + 1 ≤ (b ++ [o]).length := by simp; omega
  simp only [frameOctet, if_neg this]

theorem frameOctet_complete (p : Port) {n : Octet} {b : List Octet} (sp : Bool) (o : Octet) (s : State)
    (h : b.length = n.toNat) : frameOctet p (some n) b sp o s = judgeFrame p n (b ++ [o]) sp s := by
  have : n.toNat + 1 ≤ (b ++ [o]).length := by simp; omega
  simp only [frameOctet, if_pos this]

/-- A complete frame that fails its checks, or whose code is in no table, leads to RESYNC. -/
theorem judgeFrame_bad (p : Port) {n o : Octet} {b : List Octet} {sp : Bool} (s : State)
    (h : sp = true ∨ octetSum (n :: b) + o ≠ 0 ∨ knownCode (b.headD 0) = false) :
    judgeFrame p n (b ++ [o]) sp s = setRx p .resync s := by
  unfold judgeFrame
  have hsum : octetSum (n :: (b ++ [o])) = octetSum (n :: b) + o := by
    simp [BitVec.add_assoc]
  rw [hsum, List.dropLast_concat]
  by_cases hbad : sp = true ∨ octetSum (n :: b) + o ≠ 0
  · exact if_pos hbad
  · rw [if_neg hbad]
    have hcode : knownCode (b.headD 0) = false := by tauto
    match b, hcode with
    | [], _ => rfl
    | [_], _ => rfl
    | code :: tag :: params, hcode => exact if_neg (by simpa using hcode)

theorem setRx_setRx (p : Port) (x y : RxState) (s : State) : setRx p x (setRx p y s) = setRx p x s := by
  cases p <;> rfl

theorem receiveChars_append (p : Port) (a b : List Octet) (s : State) :
    receiveChars p (onLine (a ++ b)) s = receiveChars p (onLine b) (receiveChars p (onLine a) s) := by
  simp only [receiveChars, onLine, List.map_append, List.foldl_append]

/-- Body octets within the length are stored (R164). -/
theorem receiveChars_body (p : Port) (n : Octet) (l : List Octet) (s : State) :
    ∀ b : List Octet, b.length + l.length ≤ n.toNat →
      receiveChars p (onLine l) (setRx p (.frame (some n) b false) s) = setRx p (.frame (some n) (b ++ l) false) s := by
  induction l with
  | nil => intro b _; rw [List.append_nil]; rfl
  | cons o l ih =>
    intro b hb
    rw [List.length_cons] at hb
    have hstep : receiveChar p (.clean o) (setRx p (.frame (some n) b false) s) =
        setRx p (.frame (some n) (b ++ [o]) false) s := by
      rw [receiveChar_frame (rxOf_setRx _ p _) (clean_taken _), clean_octet, clean_spoiled,
        frameOctet_body p _ _ _ (by omega), setRx_setRx]
      rfl
    calc receiveChars p (onLine (o :: l)) (setRx p (.frame (some n) b false) s) =
          receiveChars p (onLine l) (receiveChar p (.clean o) (setRx p (.frame (some n) b false) s)) := rfl
      _ = setRx p (.frame (some n) (b ++ [o] ++ l) false) s := by
        rw [hstep, ih (b ++ [o]) (by rw [List.length_append]; simp only [List.length_singleton]; omega)]
      _ = _ := by rw [List.append_assoc]; rfl

/-- A whole frame in HUNT is judged at its check octet (R164). -/
theorem receiveChars_frame {s : State} {p : Port} (n check : Octet) (body : List Octet) (h : rxOf s p = .hunt)
    (hlen : body.length = n.toNat) (hn : 2 ≤ n.toNat ∧ n.toNat ≤ 64) :
    receiveChars p (onLine (0xA5 :: n :: body ++ [check])) s =
      judgeFrame p n (body ++ [check]) false (setRx p (.frame (some n) body false) s) := by
  have hmark : receiveChar p (.clean 0xA5) s = setRx p (.frame none [] false) s := by simp [receiveChar_hunt h]
  have hcount : receiveChar p (.clean n) (setRx p (.frame none [] false) s) =
      setRx p (.frame (some n) [] false) s := by
    rw [receiveChar_frame (rxOf_setRx _ p _) (clean_taken _), frameOctet_length, clean_octet, clean_spoiled,
      if_neg (by omega), setRx_setRx]
    rfl
  have hcheck : receiveChar p (.clean check) (setRx p (.frame (some n) body false) s) =
      judgeFrame p n (body ++ [check]) false (setRx p (.frame (some n) body false) s) := by
    rw [receiveChar_frame (rxOf_setRx _ p _) (clean_taken _), clean_octet, clean_spoiled,
      frameOctet_complete p _ _ _ hlen]
    rfl
  rw [receiveChars_append, ← hcheck]
  refine congrArg (receiveChar p (.clean check)) ?_
  calc receiveChars p (onLine (0xA5 :: n :: body)) s =
        receiveChars p (onLine body) (receiveChar p (.clean n) (receiveChar p (.clean 0xA5) s)) := rfl
    _ = _ := by rw [hmark, hcount, receiveChars_body p n body s [] (by simpa using hlen.le)]; rfl

/-- Settles O53: each state's characters and timers by the rule of that state. -/
theorem receiveStatesFollowTheLine : Obligations.ReceiveStatesFollowTheLine := by
  intro s p o char spoilt
  obtain ⟨htaken, hoctet, hspoilt⟩ := spoilt_read o
  have hclean := clean_taken o
  refine ⟨fun h => ⟨?_, ?_, ?_, ?_, fun hne => ?_⟩, fun buffer sp h => ⟨?_, ?_, ?_⟩,
    fun n buffer sp h => ⟨?_, fun hlt => ⟨?_, ?_⟩, fun heq => ⟨fun hbad => ⟨?_, ?_⟩, ?_⟩⟩, fun h => ⟨?_, ?_, ?_⟩,
    fun r h => ⟨?_, ?_, ?_, ?_⟩⟩
  · change Host.Outcome.next (receiveChar p (.clean o) s) = _
    simp [receiveChar_hunt h hclean]
  · change Host.Outcome.next (receiveChar p spoilt s) = _
    rw [receiveChar_hunt h htaken, if_neg (fun hc => Bool.noConfusion (hspoilt.symm.trans hc.2))]
  · change Host.Outcome.next (gapTimeout p s) = _
    simp [gapTimeout, h]
  · change Host.Outcome.next (resyncIdle p s) = _
    simp [resyncIdle, h]
  · change Host.Outcome.next (badFrame p _ s) = _
    have heven : octetSum [2, o, o] + (o + o) ≠ 0 := by
      simp only [octetSum_cons, octetSum_nil]
      bv_omega
    have hrx : rxOf (receiveChars p (onLine [0xA5, 2, o, o, o + o]) s) p = .resync := by
      rw [show [0xA5, 2, o, o, o + o] = 0xA5 :: 2 :: [o, o] ++ [o + o] from rfl,
        receiveChars_frame 2 (o + o) [o, o] h rfl (by decide), judgeFrame_bad p _ (.inr (.inl heven)), rxOf_setRx]
    rw [badFrame_of_resync (.inl h) hrx, if_neg (fun hc => absurd hc.1 (by bv_omega))]
  · change Host.Outcome.next (receiveChar p (.clean o) s) = _
    rw [receiveChar_frame h hclean, frameOctet_length, clean_octet, clean_spoiled, Bool.or_false]
  · change Host.Outcome.next (receiveChar p spoilt s) = _
    rw [receiveChar_frame h htaken, frameOctet_length, hoctet, hspoilt, Bool.or_true]
  · change Host.Outcome.next (gapTimeout p s) = _
    simp [gapTimeout, h]
  · change Host.Outcome.next (gapTimeout p s) = _
    simp [gapTimeout, h]
  · change Host.Outcome.next (receiveChar p (.clean o) s) = _
    rw [receiveChar_frame h hclean, clean_octet, clean_spoiled, Bool.or_false, frameOctet_body p _ _ _ hlt]
  · change Host.Outcome.next (receiveChar p spoilt s) = _
    rw [receiveChar_frame h htaken, hoctet, hspoilt, Bool.or_true, frameOctet_body p _ _ _ hlt]
  · change Host.Outcome.next (receiveChar p (.clean o) s) = _
    rw [receiveChar_frame h hclean, clean_octet, clean_spoiled, Bool.or_false, frameOctet_complete p _ _ _ heq,
      judgeFrame_bad p s hbad]
  · change Host.Outcome.next (badFrame p [.clean o] s) = _
    have hrx : rxOf (receiveChars p [.clean o] s) p = .resync := by
      have : receiveChars p [.clean o] s = receiveChar p (.clean o) s := rfl
      rw [this, receiveChar_frame h hclean, clean_octet, clean_spoiled, Bool.or_false, frameOctet_complete p _ _ _ heq,
        judgeFrame_bad p s hbad, rxOf_setRx]
    rw [badFrame_of_resync (.inr ⟨_, _, _, h⟩) hrx]
  · change Host.Outcome.next (receiveChar p spoilt s) = _
    rw [receiveChar_frame h htaken, hoctet, hspoilt, Bool.or_true, frameOctet_complete p _ _ _ heq,
      judgeFrame_bad p s (.inl rfl)]
  · change Host.Outcome.next (resyncIdle p s) = _
    simp [resyncIdle, h]
  · exact congrArg Host.Outcome.next (receiveChar_resync h)
  · change Host.Outcome.next (badFrame p [char] s) = _
    simp [badFrame, h]
  · exact congrArg Host.Outcome.next (receiveChar_owed h)
  · change Host.Outcome.next (resyncIdle p s) = _
    simp [resyncIdle, h]
  · change Host.Outcome.next (gapTimeout p s) = _
    simp [gapTimeout, h]
  · change Host.Outcome.next (badFrame p [char] s) = _
    simp [badFrame, h]

end Sys2Proof.Laws
end

section
/-! SUPPORT. Settings on the line, and what a write leaves. -/

namespace Sys2Proof.Laws

open Sys2Proof.Machine

/-! ### Numbers on the line (Table 10.11) -/

/-- A number that the width of its setting can carry. -/
def carries (single signed : Bool) (v : Int) : Prop :=
  if single then 0 ≤ v ∧ v < 256 else if signed then -32768 ≤ v ∧ v < 32768 else 0 ≤ v ∧ v < 65536

theorem numberValue_two (signed : Bool) (v : Int) :
    numberValue false signed (enc2i v) = some (if signed then (BitVec.ofInt 16 v).toInt else (BitVec.ofInt 16 v).toNat) := by
  change some (if signed then (halfOf _ _).toInt else ((halfOf _ _).toNat : Int)) = _
  rw [halfOf_octets]

theorem numberValue_octets {single signed : Bool} {v : Int} (h : carries single signed v) :
    numberValue single signed (if single then enc1 v.toNat else enc2i v) = some v := by
  cases single with
  | true =>
    obtain ⟨h0, h1⟩ : 0 ≤ v ∧ v < 256 := h
    change some ((BitVec.ofNat 8 v.toNat).toNat : Int) = _
    rw [BitVec.toNat_ofNat]
    congr 1
    omega
  | false =>
    refine (numberValue_two signed v).trans (congrArg some ?_)
    cases signed with
    | true =>
      obtain ⟨h0, h1⟩ : -32768 ≤ v ∧ v < 32768 := h
      simp only [if_true, BitVec.toInt_ofInt, Int.bmod]
      omega
    | false =>
      obtain ⟨h0, h1⟩ : 0 ≤ v ∧ v < 65536 := h
      simp only [Bool.false_eq_true, if_false, BitVec.toNat_ofInt]
      omega

theorem numberValue_length {single signed : Bool} {value : List Octet}
    (h : value.length ≠ (if single then 1 else 2)) : numberValue single signed value = none := by
  unfold numberValue
  split <;> simp_all

theorem NumberSetting.carries_of_range (n : NumberSetting) {v : Int} (h : n.range.1 ≤ v ∧ v ≤ n.range.2) :
    carries n.single (n.range.1 < 0) v := by
  cases n
  all_goals
    simp only [NumberSetting.range] at h
    simp only [carries, NumberSetting.single, NumberSetting.range, Bool.false_eq_true, if_true, if_false]
    norm_num
    omega

theorem inRange_iff (r : Int × Int) (v : Int) : inRange r v = true ↔ r.1 ≤ v ∧ v ≤ r.2 := by
  simp [inRange]

/-! ### A number written (R175) -/

theorem judgeWrite_number_none {s : State} {n : NumberSetting} {value : List Octet}
    (h : (numberValue n.single (n.range.1 < 0) value).filter (inRange n.range) = none) :
    judgeWrite s (.number n) value = .refused .range := by
  simp only [judgeWrite, h]
  rfl

theorem judgeWrite_number_taken (s : State) (n : NumberSetting) {v : Int} (h : n.range.1 ≤ v ∧ v ≤ n.range.2) :
    judgeWrite s (.number n) (if n.single then enc1 v.toNat else enc2i v) = .taken (n.set s.settings v) := by
  simp only [judgeWrite, numberValue_octets (NumberSetting.carries_of_range n h), Option.filter, (inRange_iff _ _).mpr h]
  rfl

theorem judgeWrite_number_outside (s : State) (n : NumberSetting) {v : Int} (h : v < n.range.1 ∨ n.range.2 < v)
    (hc : carries n.single (n.range.1 < 0) v) :
    judgeWrite s (.number n) (if n.single then enc1 v.toNat else enc2i v) = .refused .range := by
  refine judgeWrite_number_none ?_
  have : inRange n.range v = false := by
    rw [Bool.eq_false_iff, ne_eq, inRange_iff]
    omega
  simp [numberValue_octets hc, this]

/-! ### A schedule entry written (R39) -/

theorem equaliseWork_given (old : ScheduleWork) (r : Fin 4) {t : Nat} (h : t ≤ 10000) :
    equaliseWork old (some r.val) (some t) = some (.equalise r t) := by
  unfold equaliseWork
  simp [h]

theorem waterWork_given (old : ScheduleWork) {n : Nat} (h : 1 ≤ n ∧ n ≤ 10000) :
    waterWork old (some n) = some (.water n) := by
  unfold waterWork
  simp [h]

/-- The EQUALISE fields that a write is refused for. -/
theorem equaliseWork_none {old : ScheduleWork} {a b : Bool} {r t : Nat}
    (h : a = true ∧ 3 < r ∨ b = true ∧ 10000 < t ∨ (∃ n, old = .water n) ∧ (a && b) = false) :
    equaliseWork old (given a r) (given b t) = none := by
  unfold equaliseWork given
  cases a <;> cases b <;> cases old <;> simp_all <;> omega

/-- The WATER field that a write is refused for. -/
theorem waterWork_none {old : ScheduleWork} {a : Bool} {n : Nat}
    (h : a = true ∧ (n = 0 ∨ 10000 < n) ∨ (∃ r t, old = .equalise r t) ∧ a = false) :
    waterWork old (given a n) = none := by
  unfold waterWork given
  cases a <;> cases old <;> simp_all <;> omega

/-- The eleven octets of a schedule entry, judged (Table 10.11). -/
theorem scheduleEntryOf_octets (old : ScheduleEntry) (en kind str pres rec d1 d2 i1 i2 t1 t2 : Octet) :
    scheduleEntryOf old [en, kind, str, pres, rec, d1, d2, i1, i2, t1, t2] =
      if en.toNat ≤ 1 ∧ kind.toNat ≤ 1 ∧ pres.toNat ≤ 7 ∧ 1 ≤ (halfOf i1 i2).toNat ∧ (halfOf i1 i2).toNat ≤ 4000 then
        (finOf 8 str).bind fun s =>
          (if kind = 0 then
            equaliseWork old.work (given (pres.getLsbD 0) rec.toNat) (given (pres.getLsbD 2) (halfOf t1 t2).toNat)
          else waterWork old.work (given (pres.getLsbD 1) (halfOf d1 d2).toNat)).map fun w =>
            { enabled := en = 1, work := w, string := s, interval := (halfOf i1 i2).toNat }
      else none := by
  simp only [scheduleEntryOf]
  split
  · generalize (if kind = 0 then _ else _ : Option ScheduleWork) = work
    cases finOf 8 str <;> cases work <;> rfl
  · rfl

theorem half_octets (n : Nat) (h : n < 65536) :
    (halfOf ((BitVec.ofNat 16 n).extractLsb' 8 8) ((BitVec.ofNat 16 n).extractLsb' 0 8)).toNat = n := by
  rw [halfOf_octets, BitVec.toNat_ofNat]
  exact Nat.mod_eq_of_lt h

theorem flagOctet (b : Bool) : (if b then 1 else 0 : Octet).toNat ≤ 1 ∧ decide ((if b then 1 else 0 : Octet) = 1) = b := by
  cases b <;> decide

/-- An EQUALISE entry as written, a dose limit ignored (R39). -/
theorem scheduleEntryOf_equalise (old : ScheduleEntry) (en otherKind : Bool) (i : StringNo) (r : Fin 4) (n t : Nat)
    (x y : Octet) (hn : 1 ≤ n ∧ n ≤ 4000) (ht : t ≤ 10000) :
    scheduleEntryOf old ([if en then 1 else 0, 0, BitVec.ofNat 8 i.val, if otherKind then 7 else 5,
        BitVec.ofNat 8 r.val, x, y] ++ enc2 n ++ enc2 t)
      = some { enabled := en, work := .equalise r t, string := i, interval := n } := by
  have hr : (BitVec.ofNat 8 r.val).toNat = r.val := by
    rw [BitVec.toNat_ofNat]
    exact Nat.mod_eq_of_lt (by omega)
  have hpres : (if otherKind then 7 else 5 : Octet).toNat ≤ 7 ∧ (if otherKind then 7 else 5 : Octet).getLsbD 0 = true
      ∧ (if otherKind then 7 else 5 : Octet).getLsbD 2 = true := by
    cases otherKind <;> decide
  obtain ⟨hp, h0, h2⟩ := hpres
  obtain ⟨hen, hflag⟩ := flagOctet en
  refine (scheduleEntryOf_octets old _ _ _ _ _ _ _ _ _ _ _).trans ?_
  rw [half_octets n (by omega), half_octets t (by omega), finOf_ofNat 8 (by decide), hr, h0, h2, hflag,
    if_pos ⟨hen, by decide, hp, hn⟩, if_pos rfl]
  simp [given, equaliseWork_given _ r ht]

/-- A WATER entry as written, the EQUALISE fields ignored (R39). -/
theorem scheduleEntryOf_water (old : ScheduleEntry) (en otherKind : Bool) (i : StringNo) (n m : Nat)
    (x y z : Octet) (hn : 1 ≤ n ∧ n ≤ 4000) (hm : 1 ≤ m ∧ m ≤ 10000) :
    scheduleEntryOf old ([if en then 1 else 0, 1, BitVec.ofNat 8 i.val, if otherKind then 7 else 2, x] ++ enc2 m
        ++ enc2 n ++ [y, z])
      = some { enabled := en, work := .water m, string := i, interval := n } := by
  have hpres : (if otherKind then 7 else 2 : Octet).toNat ≤ 7
      ∧ (if otherKind then 7 else 2 : Octet).getLsbD 1 = true := by
    cases otherKind <;> decide
  obtain ⟨hp, h1⟩ := hpres
  obtain ⟨hen, hflag⟩ := flagOctet en
  refine (scheduleEntryOf_octets old _ _ _ _ _ _ _ _ _ _ _).trans ?_
  rw [half_octets n (by omega), half_octets m (by omega), finOf_ofNat 8 (by decide), h1, hflag,
    if_pos ⟨hen, by decide, hp, hn⟩, if_neg (by decide)]
  simp [given, waterWork_given _ hm]

theorem judgeWrite_schedule_none {s : State} {k : Fin 24} {value : List Octet}
    (h : scheduleEntryOf s.settings.schedule[k] value = none) :
    judgeWrite s (.schedule k) value = .refused .range := by
  simp only [judgeWrite, h]
  rfl

theorem judgeWrite_schedule_some {s : State} {k : Fin 24} {value : List Octet} {e : ScheduleEntry}
    (h : scheduleEntryOf s.settings.schedule[k] value = some e) :
    judgeWrite s (.schedule k) value = .taken { s.settings with schedule := s.settings.schedule.set k e } := by
  simp only [judgeWrite, h]
  rfl

theorem scheduleEntryOf_length {old : ScheduleEntry} {value : List Octet} (h : value.length ≠ 11) :
    scheduleEntryOf old value = none := by
  unfold scheduleEntryOf
  split <;> simp_all

/-! ### Class entries, the loop map, recipes and installed flags (R17, R86, R136, R137) -/

theorem classOf_none {o : Octet} (h : 3 < o.toNat) : classOf o = none := by
  unfold classOf
  split <;> first | omega | rfl

theorem classOf_octet (c : AccessClass) :
    classOf (match c with | .f => 0 | .h => 1 | .fh => 2 | .a => 3 : Octet) = some c := by
  cases c <;> rfl

theorem classEntryOf_length {value : List Octet} (h : value.length ≠ 3) : classEntryOf value = none := by
  unfold classEntryOf
  split <;> simp_all

theorem judgeWrite_class_none {s : State} {m : MemberNo} {value : List Octet} (h : classEntryOf value = none) :
    judgeWrite s (.classEntry m) value = .refused .range := by
  simp only [judgeWrite, h]
  rfl

theorem loopMapOf_some {value : List Octet} {m : Vector MemberNo 10} (h : loopMapOf value = some m) :
    value.length = 10 ∧ ∀ o ∈ value, o.toNat ≤ 9 := by
  unfold loopMapOf at h
  split at h
  · rename_i heq
    refine ⟨by simpa using congrArg List.length heq, fun o ho => ?_⟩
    have hmem : finOf 10 o ∈ value.map (finOf 10) := List.mem_map_of_mem ho
    by_contra hlt
    rw [heq, finOf_eq_none 10 o (by omega)] at hmem
    simp at hmem
  · cases h

theorem judgeWrite_map_none {s : State} {value : List Octet} (h : loopMapOf value = none) :
    judgeWrite s .loopMap value = .refused .range := by
  simp only [judgeWrite, h]
  rfl

theorem loopMapOf_octets (map : Vector MemberNo 10) :
    loopMapOf (map.toList.map fun m => BitVec.ofNat 8 m.val) = if map.toList.Nodup then some map else none := by
  have hread : (map.toList.map fun m => (BitVec.ofNat 8 m.val : Octet)).map (finOf 10) = map.toList.map some := by
    rw [List.map_map]
    exact List.map_congr_left fun m _ => finOf_ofNat 10 (by decide) m
  unfold loopMapOf
  rw [hread]
  obtain ⟨⟨l⟩, hl⟩ := map
  match l, hl with
  | [a, b, c, d, e, f, g, h, i, j], _ => rfl

theorem recipeLocked_iff (s : State) (r : Fin 4) :
    recipeLocked s r = true ↔ s.eqc.round.map Round.recipeNo = some r := by
  unfold recipeLocked
  cases s.eqc.round <;> simp

theorem judgeWrite_recipe_none {s : State} {r : Fin 4} {p : RecipeParam} {value : List Octet}
    (h : (numberValue false true value).filter (inRange p.range) = none) :
    judgeWrite s (.recipe r p) value = .refused .range := by
  simp only [judgeWrite, h]

theorem RecipeParam.carries_of_range (p : RecipeParam) {v : Int} (h : p.range.1 ≤ v ∧ v ≤ p.range.2) :
    carries false true v := by
  cases p
  all_goals
    simp only [RecipeParam.range] at h
    change -32768 ≤ v ∧ v < 32768
    omega

/-- A recipe parameter in its range is judged by the recipe it leaves, and by the round that holds it (R86). -/
theorem judgeWrite_recipe (s : State) (r : Fin 4) (p : RecipeParam) {v : Int} (h : p.range.1 ≤ v ∧ v ≤ p.range.2) :
    judgeWrite s (.recipe r p) (enc2i v) =
      if (p.set s.settings.recipes[r] v).maxHold < (p.set s.settings.recipes[r] v).minHold
          ∨ (p.set s.settings.recipes[r] v).ilim < (p.set s.settings.recipes[r] v).imin then .refused .range
      else if s.eqc.round.map Round.recipeNo = some r then .refused .locked
      else .taken { s.settings with recipes := s.settings.recipes.set r (p.set s.settings.recipes[r] v) } := by
  have hv : numberValue false true (enc2i v) = some v := numberValue_octets (RecipeParam.carries_of_range p h)
  simp only [judgeWrite, hv, Option.filter, (inRange_iff _ _).mpr h, if_true]
  refine if_congr ?_ rfl (if_congr (recipeLocked_iff s r) rfl rfl)
  simp only [Recipe.consistent, Bool.not_eq_true', Bool.and_eq_false_iff, decide_eq_false_iff_not, Nat.not_le]

theorem judgeWrite_recipe_outside (s : State) (r : Fin 4) (p : RecipeParam) {v : Int}
    (hc : -32768 ≤ v ∧ v < 32768) (h : v < p.range.1 ∨ p.range.2 < v) :
    judgeWrite s (.recipe r p) (enc2i v) = .refused .range := by
  have hv : numberValue false true (enc2i v) = some v := numberValue_octets (single := false) (signed := true) hc
  have hout : inRange p.range v = false := by
    rw [Bool.eq_false_iff, ne_eq, inRange_iff]
    omega
  exact judgeWrite_recipe_none (by simp [hv, hout])

/-- The string is at rest: in FLOAT or barred. -/
def resting (x : StringState) : Bool := match x with | .float | .barred _ => true | _ => false

theorem uninstallLocked_eq (s : State) (i : StringNo) :
    uninstallLocked s i = (!resting (recordOf s i).state
      || (s.queue.any (fun e => e.string = i) || s.eqc.attachment.holds i || s.wac.valve.holds i)) := by
  unfold uninstallLocked resting
  cases (recordOf s i).state <;> simp [StringState.barCause, Bool.or_assoc]

theorem judgeWrite_installed_length {s : State} {i : StringNo} {value : List Octet} (h : value.length ≠ 1) :
    judgeWrite s (.installed i) value = .refused .range := by
  match value, h with
  | [], _ => rfl
  | _ :: _ :: _, _ => rfl

/-! ### What a write taken does at once (R45, R109, R158) -/

theorem consequences_installed (before : Settings) (i : StringNo) (s : State) :
    consequences before (.installed i) s =
      if isInstalled s i ∧ before.installed[i] = false then
        demandClaim { s with demand := { s.demand with list := s.demand.list.set i (some 0) } }
      else s := by
  simp only [consequences, judgeDemand_eq]
  refine if_congr ?_ rfl rfl
  simp [isInstalled]

theorem consequences_number (before : Settings) {n : NumberSetting} (h : n ≠ .dmax) (h' : n ≠ .threshold) (s : State) :
    consequences before (.number n) s = s := by
  cases n
  case dmax => exact absurd rfl h
  case threshold => exact absurd rfl h'
  all_goals rfl

end Sys2Proof.Laws
end

section
/-! SUPPORT. WRITE SETTING. -/

namespace Sys2Proof.Laws

open Sys2Proof.Machine

/-! ### WRITE SETTING (R175) -/

theorem writeSetting_unnamed {identifier index : Octet} (value : List Octet) (s : State)
    (h : Setting.named identifier index = none) : answerWriteSetting identifier index value s = refuse .range s := by
  simp only [answerWriteSetting, writeSetting, h, refuse]

/-- A write of a setting at Port S, as the owner's checks judge it (R175). -/
theorem writeSetting_named (tag : Octet) {identifier index : Octet} {x : Setting} {value : List Octet} {s : State}
    (h : hears .service s) (hl : value.length ≤ 60) (hx : Setting.named identifier index = some x) :
    exec (.writeSetting .service tag identifier index value) s = .next
      (match judgeWrite s x value with
        | .refused st => owing .service 0x1A tag st [] s
        | .taken t =>
          if s.store.storing then owing .service 0x1A tag .busy [] s
          else owing .service 0x1A tag .done []
            (consequences s.settings x { s with settings := t, store := { s.store with modified := true } })) := by
  change Host.Outcome.next (arrive .service tag (.writeSetting identifier index value) s) = _
  rw [arrive_owner .service tag (.writeSetting identifier index value) s h
    (by change value.length + 2 ≤ 62; omega) rfl rfl]
  refine congrArg Host.Outcome.next ?_
  simp only [owner, answerWriteSetting, writeSetting, hx]
  cases judgeWrite s x value with
  | refused st => rfl
  | taken t =>
    dsimp only
    split <;> rfl

/-- An octet of a schedule entry that Table 10.11 or Table 3.3 does not give (R39). -/
theorem scheduleEntryOf_none {old : ScheduleEntry} {en kind str pres rec d1 d2 i1 i2 t1 t2 : Octet} {wasWater : Bool}
    (hold : wasWater = true ↔ ∃ n, old.work = .water n) :
    1 < en.toNat ∨ 1 < kind.toNat ∨ 7 < str.toNat ∨ 7 < pres.toNat ∨ (halfOf i1 i2).toNat = 0
      ∨ 4000 < (halfOf i1 i2).toNat
      ∨ (kind = 0 ∧ (pres.getLsbD 0 ∧ 3 < rec.toNat ∨ pres.getLsbD 2 ∧ 10000 < (halfOf t1 t2).toNat
          ∨ wasWater = true ∧ (pres.getLsbD 0 && pres.getLsbD 2) = false))
      ∨ (kind = 1 ∧ (pres.getLsbD 1 ∧ ((halfOf d1 d2).toNat = 0 ∨ 10000 < (halfOf d1 d2).toNat)
          ∨ wasWater = false ∧ pres.getLsbD 1 = false)) →
    scheduleEntryOf old [en, kind, str, pres, rec, d1, d2, i1, i2, t1, t2] = none := by
  intro h
  rw [scheduleEntryOf_octets]
  split_ifs with hb hk
  · by_cases hs : 7 < str.toNat
    · rw [finOf_eq_none 8 str (by omega)]
      rfl
    · have hw : equaliseWork old.work (given (pres.getLsbD 0) rec.toNat)
          (given (pres.getLsbD 2) (halfOf t1 t2).toNat) = none := by
        refine equaliseWork_none ?_
        rw [← hold]
        have hk1 : kind ≠ 1 := by rw [hk]; decide
        have := hb.1
        obtain h | h | h | h | h | h | ⟨-, h⟩ | ⟨h, -⟩ := h
        case inr.inr.inr.inr.inr.inr.inl => exact h
        all_goals first | omega | exact absurd h hk1
      rw [hw]
      cases finOf 8 str <;> rfl
  · by_cases hs : 7 < str.toNat
    · rw [finOf_eq_none 8 str (by omega)]
      rfl
    · have hw : waterWork old.work (given (pres.getLsbD 1) (halfOf d1 d2).toNat) = none := by
        refine waterWork_none ?_
        have hw' : (∃ r t, old.work = .equalise r t) ↔ wasWater = false := by
          rw [← Bool.not_eq_true, hold]
          cases old.work <;> simp
        rw [hw']
        have := hb.1
        obtain h | h | h | h | h | h | ⟨h, -⟩ | ⟨-, h⟩ := h
        case inr.inr.inr.inr.inr.inr.inr => exact h
        all_goals first | omega | exact absurd h hk
      rw [hw]
      cases finOf 8 str <;> rfl
  · rfl

theorem judgeWrite_schedule_taken (s : State) (k : Fin 24) (e : ScheduleEntry) (otherKind : Bool) (x y z : Octet)
    (h : e.valid) :
    judgeWrite s (.schedule k)
        (match e.work with
        | .equalise r t =>
          [if e.enabled then 1 else 0, 0, BitVec.ofNat 8 e.string.val, if otherKind then 7 else 5,
            BitVec.ofNat 8 r.val, x, y] ++ enc2 e.interval ++ enc2 t
        | .water n =>
          [if e.enabled then 1 else 0, 1, BitVec.ofNat 8 e.string.val, if otherKind then 7 else 2, x] ++ enc2 n
            ++ enc2 e.interval ++ [y, z])
      = .taken { s.settings with schedule := s.settings.schedule.set k e } := by
  obtain ⟨hlo, hhi, heq, hwat⟩ := (scheduleEntry_valid_iff e).mp h
  obtain ⟨en, work, str, interval⟩ := e
  cases work with
  | equalise r t =>
    exact judgeWrite_schedule_some (scheduleEntryOf_equalise _ en otherKind str r interval t x y ⟨hlo, hhi⟩
      (heq r t rfl))
  | water n =>
    exact judgeWrite_schedule_some (scheduleEntryOf_water _ en otherKind str interval n x y z ⟨hlo, hhi⟩ (hwat n rfl))

theorem judgeWrite_class_taken (s : State) (m : MemberNo) (c : AccessClass) {delay hold : Octet}
    (hd : delay.toNat ≤ 250) (h1 : 1 ≤ hold.toNat) (h20 : hold.toNat ≤ 20) :
    judgeWrite s (.classEntry m) [match c with | .f => 0 | .h => 1 | .fh => 2 | .a => 3, delay, hold]
      = .taken { s.settings with
          classes := s.settings.classes.set m { cls := c, delay := delay.toNat, holdLimit := hold.toNat } } := by
  cases c
  all_goals
    change rangeJudged (Option.map _ (if _ then _ else _)) = _
    rw [if_pos ⟨hd, h1, h20⟩]
    rfl

theorem classEntryOf_none {c delay hold : Octet}
    (h : 3 < c.toNat ∨ 250 < delay.toNat ∨ hold = 0 ∨ 20 < hold.toNat) : classEntryOf [c, delay, hold] = none := by
  simp only [classEntryOf]
  split
  · refine if_neg fun hb => ?_
    rename_i hc
    obtain h | h | rfl | h := h
    · rw [classOf_none h] at hc
      cases hc
    · omega
    · exact absurd hb.2.1 (by decide)
    · omega
  · rfl

theorem judgeWrite_uninstall (s : State) (i : StringNo) :
    judgeWrite s (.installed i) [0] =
      if s.settings.installed[i] ∧ (!resting (recordOf s i).state
          ∨ (s.queue.any (fun e => e.string = i) || s.eqc.attachment.holds i || s.wac.valve.holds i))
      then .refused .locked else .taken { s.settings with installed := s.settings.installed.set i false } := by
  simp only [judgeWrite, uninstallLocked_eq, Bool.or_eq_true]
  rw [if_neg (by decide)]
  refine if_congr ?_ rfl rfl
  exact ⟨fun h => h.2, fun h => ⟨trivial, h⟩⟩

/-- Settles O55: each kind of setting by its own judgement, and what it carries with it. -/
theorem settingIsWritten : Obligations.SettingIsWritten := by
  refine ⟨fun s tag identifier index value h hl => ⟨fun hx => ?_, fun x hx => writeSetting_named tag h hl hx,
      fun n v hv => ?_⟩, fun s n v value => ⟨fun hlen => ?_, fun hv hc => judgeWrite_number_outside s n hv ?_⟩,
    fun s k e otherKind x y z he => judgeWrite_schedule_taken s k e otherKind x y z he, ?_,
    fun s k m i r p value => ⟨fun hlen => judgeWrite_schedule_none (scheduleEntryOf_length hlen),
      fun hlen => judgeWrite_class_none (classEntryOf_length hlen), judgeWrite_installed_length, fun hlen => ?_,
      fun hbad => judgeWrite_map_none ?_⟩,
    fun s m c delay hold hd h1 h20 => judgeWrite_class_taken s m c hd h1 h20,
    fun s m c delay hold h => judgeWrite_class_none (classEntryOf_none h), fun s map => ?_, ?_,
    fun s r p v hv => ⟨RecipeParam.get_set p _ v ((inRange_iff _ _).mpr hv),
      fun q hq => RecipeParam.get_set_ne q p _ v hq, judgeWrite_recipe s r p hv⟩,
    fun s r p v hc hv => judgeWrite_recipe_outside s r p hc hv,
    fun s before => ⟨rfl, ?_, fun i => consequences_installed before i s,
      fun n hd ht => consequences_number before hd ht s, fun _ => rfl, fun _ => rfl, fun _ _ => rfl, rfl⟩⟩
  · change Host.Outcome.next (arrive .service tag (.writeSetting identifier index value) s) = _
    rw [arrive_owner .service tag (.writeSetting identifier index value) s h
      (by change value.length + 2 ≤ 62; omega) rfl rfl]
    simp only [owner, writeSetting_unnamed value s hx]
    rfl
  · obtain ⟨hinst, hsched, hmap, hclass, hrecipe⟩ := NumberSetting.set_frame n s.settings v
    exact ⟨judgeWrite_number_taken s n hv, NumberSetting.get_set n _ v ((inRange_iff _ _).mpr hv),
      fun k hk => NumberSetting.get_set_ne k n _ v hk, hrecipe, hmap, hsched, hclass, hinst⟩
  · exact judgeWrite_number_none (by rw [numberValue_length hlen]; rfl)
  · simpa [carries] using hc
  · intro s k en kind string given recipe d₁ d₂ i₁ i₂ t₁ t₂ limit interval trigger a b c wasWater h
    refine judgeWrite_schedule_none (scheduleEntryOf_none (wasWater := wasWater) ?_ h)
    simp only [wasWater]
    cases s.settings.schedule[k].work <;> simp
  · exact judgeWrite_recipe_none (by rw [numberValue_length (by simpa using hlen)]; rfl)
  · cases hm : loopMapOf value with
    | none => rfl
    | some m =>
      obtain ⟨hlen, hall⟩ := loopMapOf_some hm
      obtain hne | ⟨o, ho, h9⟩ := hbad
      · exact absurd hlen hne
      · exact absurd (hall o ho) (by omega)
  · simp only [judgeWrite, loopMapOf_octets]
    split <;> rfl
  · intro s i o flag rest named
    exact ⟨rfl, judgeWrite_uninstall s i, fun h => if_pos h⟩
  · change judgeDemand (listInstalled s) = _
    rw [judgeDemand_eq]
    rfl

end Sys2Proof.Laws
end

section
/-! SUPPORT. Every answer leaves what a port has taken aside. -/

namespace Sys2Proof.Laws

open Sys2Proof.Machine

/-! ### What a port has taken of a frame does not count for any answer (R164, R165)

`setRx p x` puts the receive state of one port. Every operation an owner runs commutes with it: what reads the state
reads no receive state, and what updates it updates another part. -/

/-- An answer whose state has the receive state. -/
def hearAnswer (p : Port) (x : RxState) (a : Answer) : Answer := { a with state := setRx p x a.state }

theorem raiseAll_setRx (p : Port) (x : RxState) (s : State) (m : NoticeSet) :
    raiseAll m (setRx p x s) = setRx p x (raiseAll m s) := by
  cases p <;> rfl

@[simp] theorem raise_setRx (p : Port) (x : RxState) (s : State) (n : Notice) :
    raise n (setRx p x s) = setRx p x (raise n s) := by
  cases p <;> rfl

section
variable (p : Port) (x : RxState) (s : State)

/-- What an owner reads of the state. -/
@[simp] theorem seen_setRx :
    (∀ (a : StringNo), isInstalled (setRx p x s) a = isInstalled s a)
    ∧ (∀ (a : StringNo), recordOf (setRx p x s) a = recordOf s a)
    ∧ (∀ (a : MemberNo), isPresent (setRx p x s) a = isPresent s a)
    ∧ windowNeededNow (setRx p x s) = windowNeededNow s
    ∧ selectEqualise (setRx p x s) = selectEqualise s
    ∧ selectWater (setRx p x s) = selectWater s
    ∧ contested (setRx p x s) = contested s
    ∧ (∀ (a : QueueEntry) (b : Fin 4) (c : Half), freshRound a b c (setRx p x s) = freshRound a b c s)
    ∧ decidedRound (setRx p x s) = decidedRound s
    ∧ (∀ (a : RecordKind) (b : Option OutcomeName) (c : Option Cause) (d : QueueEntry),
      entryRecord a b c d (setRx p x s) =
        entryRecord a b c d s)
    ∧ (∀ (a : Round), computedDose (setRx p x s) a = computedDose s a)
    ∧ (∀ (a : ℕ), dosePosts (setRx p x s) a = dosePosts s a)
    ∧ (∀ (a : Kind) (b : StringNo), standing (setRx p x s) a b = standing s a b)
    ∧ (∀ (a : Round) (b : EqOutcome), equaliseRecord a b (setRx p x s) = equaliseRecord a b s)
    ∧ openRound (setRx p x s) = openRound s
    ∧ (∀ (a : Round) (b : ℕ), setpointAt (setRx p x s) a b = setpointAt s a b)
    ∧ (∀ (a : Round), resumeVoltage (setRx p x s) a = resumeVoltage s a)
    ∧ startedTimer (setRx p x s) = startedTimer s
    ∧ openDose (setRx p x s) = openDose s
    ∧ waterInFlight (setRx p x s) = waterInFlight s
    ∧ decidedDose (setRx p x s) = decidedDose s
    ∧ (∀ (a : Dose) (b : WaterOutcome), waterRecord a b (setRx p x s) = waterRecord a b s)
    ∧ equaliseInFlight (setRx p x s) = equaliseInFlight s
    ∧ (∀ (a : StringNo), stringResults a (setRx p x s) = stringResults a s)
    ∧ queueResults (setRx p x s) = queueResults s
    ∧ equaliseResults (setRx p x s) = equaliseResults s
    ∧ waterResults (setRx p x s) = waterResults s
    ∧ siteResults (setRx p x s) = siteResults s
    ∧ loopResults (setRx p x s) = loopResults s
    ∧ demandResults (setRx p x s) = demandResults s
    ∧ isReleased (setRx p x s) = isReleased s
    ∧ (∀ (a : SlotPort), slotOf (setRx p x s) a = slotOf s a)
    ∧ (∀ (a : MemberNo), nodeBusy (setRx p x s) a = nodeBusy s a)
    ∧ (∀ (a : Kind) (b : StringNo) (c : Option ℕ) (d : Option ℕ), requestedWork a b c d (setRx p x s) =
        requestedWork a b c d s)
    ∧ (∀ (a : Kind) (b : StringNo), postedResults a b (setRx p x s) = postedResults a b s)
    ∧ detachOut (setRx p x s) = detachOut s
    ∧ pumpOffOut (setRx p x s) = pumpOffOut s
    ∧ grantConditions (setRx p x s) = grantConditions s
    ∧ safeSteps (setRx p x s) = safeSteps s
    ∧ (∀ (a : Setting) (b : List Octet), judgeWrite (setRx p x s) a b = judgeWrite s a b)
    ∧ configInFlight (setRx p x s) = configInFlight s
    ∧ pollWanted (setRx p x s) = pollWanted s
    ∧ configDue (setRx p x s) = configDue s := by
  and_intros <;> intros <;> rfl

/-- The updates of one part of the state. -/
@[simp] theorem basic_setRx :
    (∀ (a : PlantUnit → PlantUnit), modPlant a (setRx p x s) = setRx p x (modPlant a s))
    ∧ (∀ (a : StringNo) (b : StringState), setStringState a b (setRx p x s) = setRx p x (setStringState a b s))
    ∧ (∀ (a : Kind) (b : StringNo), dropEntry a b (setRx p x s) = setRx p x (dropEntry a b s))
    ∧ drawNumber (setRx p x s) = (setRx p x (drawNumber s).1, (drawNumber s).2)
    ∧ (∀ (a : Eqc → Eqc), modEqc a (setRx p x s) = setRx p x (modEqc a s))
    ∧ (∀ (a : EqcState), setEqcState a (setRx p x s) = setRx p x (setEqcState a s))
    ∧ (∀ (a : Round), setRound a (setRx p x s) = setRx p x (setRound a s))
    ∧ (∀ (a : StringNo) (b : EqOutcome),
      takeEqualiseOutcome a b (setRx p x s) = setRx p x (takeEqualiseOutcome a b s))
    ∧ (∀ (a : QueueEntry), addEntry a (setRx p x s) = setRx p x (addEntry a s))
    ∧ (∀ (a : Round → Round), modRound a (setRx p x s) = setRx p x (modRound a s))
    ∧ (∀ (a : Loop → Loop), modLoop a (setRx p x s) = setRx p x (modLoop a s))
    ∧ (∀ (a : EqJob), claimEqualise a (setRx p x s) = setRx p x (claimEqualise a s))
    ∧ (∀ (a : WaterJob), claimWater a (setRx p x s) = setRx p x (claimWater a s))
    ∧ (∀ (a : StringNo), beginCheck a (setRx p x s) = setRx p x (beginCheck a s))
    ∧ (∀ (a : Wac → Wac), modWac a (setRx p x s) = setRx p x (modWac a s))
    ∧ (∀ (a : Dose → Dose), modDose a (setRx p x s) = setRx p x (modDose a s))
    ∧ withdrawWater (setRx p x s) = setRx p x (withdrawWater s)
    ∧ (∀ (a : Dose), setDose a (setRx p x s) = setRx p x (setDose a s))
    ∧ (∀ (a : WacState), setWacState a (setRx p x s) = setRx p x (setWacState a s))
    ∧ (∀ (a : StringNo) (b : WaterOutcome) (c : ℕ), takeWaterOutcome a b c (setRx p x s) =
        setRx p x (takeWaterOutcome a b c s))
    ∧ enterWacIdle (setRx p x s) = setRx p x (enterWacIdle s)
    ∧ enterDetach (setRx p x s) = setRx p x (enterDetach s)
    ∧ withdrawEqualise (setRx p x s) = setRx p x (withdrawEqualise s)
    ∧ stopTimer (setRx p x s) = setRx p x (stopTimer s)
    ∧ placePauseStandby (setRx p x s) = setRx p x (placePauseStandby s)
    ∧ (∀ (a : Option InFlight), setInFlight a (setRx p x s) = setRx p x (setInFlight a s))
    ∧ (∀ (a : Claimant) (b : MemberNo) (c : LoopCommand), startTransaction a b c (setRx p x s) =
        setRx p x (startTransaction a b c s))
    ∧ (∀ (a : Release), setRelease a (setRx p x s) = setRx p x (setRelease a s))
    ∧ (∀ (a : DemandUnit → DemandUnit), modDemand a (setRx p x s) = setRx p x (modDemand a s))
    ∧ (∀ (a : ℕ), lowerLimits a (setRx p x s) = setRx p x (lowerLimits a s))
    ∧ listInstalled (setRx p x s) = setRx p x (listInstalled s)
    ∧ (∀ (a : StringNo) (b : Option ℕ), setWait a b (setRx p x s) = setRx p x (setWait a b s))
    ∧ beginStore (setRx p x s) = setRx p x (beginStore s) := by
  and_intros <;> intros <;> rfl

/-- The answers that need no judgement. -/
@[simp] theorem answers_setRx :
    (∀ (a : Status), refuse a (setRx p x s) = hearAnswer p x (refuse a s))
    ∧ done (setRx p x s) = hearAnswer p x (done s)
    ∧ (∀ (a : List Octet), doneWith a (setRx p x s) = hearAnswer p x (doneWith a s))
    ∧ answerReadForecast (setRx p x s) = hearAnswer p x (answerReadForecast s)
    ∧ accepted (setRx p x s) = hearAnswer p x (accepted s)
    ∧ answerReadDemands (setRx p x s) = hearAnswer p x (answerReadDemands s)
    ∧ (∀ (a : Quad), answerSetClock a (setRx p x s) = hearAnswer p x (answerSetClock a s))
    ∧ answerRestart (setRx p x s) = hearAnswer p x (answerRestart s) := by
  and_intros <;> intros <;> rfl

@[simp] theorem judgeWindowNeeded_setRx :
    judgeWindowNeeded (setRx p x s) = setRx p x (judgeWindowNeeded s) := by
  simp only [judgeWindowNeeded, setRx_frame, seen_setRx]
  split <;> simp

@[simp] theorem logWrite_setRx (a : LogRecord) :
    logWrite a (setRx p x s) = setRx p x (logWrite a s) := by
  rw [logWrite_eq, logWrite_eq, ← raiseAll_setRx]
  rfl

@[simp] theorem cancelEntry_setRx (a : Cause) (b : QueueEntry) :
    cancelEntry a b (setRx p x s) = setRx p x (cancelEntry a b s) := by
  simp [cancelEntry]

@[simp] theorem removeBarred_setRx (a : StringNo) :
    removeBarred a (setRx p x s) = setRx p x (removeBarred a s) := by
  simp only [removeBarred, setRx_frame]
  generalize (queueOrder s.queue).filter (fun e => e.string = a) = l
  induction l generalizing s with
  | nil => rfl
  | cons e l ih => rw [List.foldl_cons, List.foldl_cons, cancelEntry_setRx, ih]

@[simp] theorem releaseString_setRx (a : StringNo) (b : Option BarCause) (c : Option ℕ) :
    releaseString a b c (setRx p x s) = setRx p x (releaseString a b c s) := by
  simp only [releaseString, seen_setRx]
  repeat' split
  all_goals simp

@[simp] theorem displace_setRx (a : QueueEntry) (b : QueueEntry) :
    displace a b (setRx p x s) = setRx p x (displace a b s) := by
  simp [displace]

@[simp] theorem judgePost_setRx (a : QueueEntry) :
    judgePost a (setRx p x s) = (setRx p x (judgePost a s).1, (judgePost a s).2) := by
  simp only [judgePost, setRx_frame]
  repeat' split
  all_goals simp
  all_goals rfl

@[simp] theorem post_setRx (a : QueueEntry) :
    post a (setRx p x s) = (setRx p x (post a s).1, (post a s).2) := by
  simp only [post, setRx_frame, seen_setRx]
  split <;> simp

@[simp] theorem handDose_setRx (a : Round) (b : EqOutcome) :
    handDose a b (setRx p x s) = (setRx p x (handDose a b s).1, (handDose a b s).2) := by
  simp only [handDose, seen_setRx]
  repeat' split
  all_goals simp

@[simp] theorem enterEqcFault_setRx :
    enterEqcFault (setRx p x s) = setRx p x (enterEqcFault s) := by
  simp [enterEqcFault]

@[simp] theorem handOnRound_setRx (a : Round) (b : EqOutcome) (c : Bool) (d : Bool) :
    handOnRound a b c d (setRx p x s) = setRx p x (handOnRound a b c d s) := by
  simp only [handOnRound]
  split <;> simp

@[simp] theorem endRound_setRx (a : Bool) (b : Bool) :
    endRound a b (setRx p x s) = setRx p x (endRound a b s) := by
  simp only [endRound, seen_setRx]
  split <;> simp

@[simp] theorem beginRound_setRx (a : QueueEntry) (b : Fin 4) :
    beginRound a b (setRx p x s) = setRx p x (beginRound a b s) := by
  simp only [beginRound, setRx_frame, seen_setRx, basic_setRx]
  repeat' split
  all_goals simp

@[simp] theorem judgeEqc_setRx :
    judgeEqc (setRx p x s) = setRx p x (judgeEqc s) := by
  simp only [judgeEqc, seen_setRx]
  repeat' split
  all_goals simp

@[simp] theorem judgeWac_setRx :
    judgeWac (setRx p x s) = setRx p x (judgeWac s) := by
  simp only [judgeWac, seen_setRx]
  split <;> simp

/-- A free choice more has been made. -/
def noteContest (s : State) : State := { s with free := s.free + 1 }

theorem noteContest_setRx : noteContest (setRx p x s) = setRx p x (noteContest s) := rfl

theorem judgeChannels_eq : judgeChannels s =
    if contested s then
      if Config.waterJudgesFirst s.free then judgeEqc (judgeWac (noteContest s))
      else judgeWac (judgeEqc (noteContest s))
    else judgeWac (judgeEqc s) := rfl

@[simp] theorem judgeChannels_setRx :
    judgeChannels (setRx p x s) = setRx p x (judgeChannels s) := by
  simp only [judgeChannels_eq, seen_setRx, setRx_frame, noteContest_setRx, judgeEqc_setRx, judgeWac_setRx]
  repeat' split
  all_goals rfl

@[simp] theorem judge_setRx :
    judge (setRx p x s) = setRx p x (judge s) := by
  simp [judge]

@[simp] theorem resumeRound_setRx (a : Round) :
    resumeRound a (setRx p x s) = setRx p x (resumeRound a s) := by
  simp only [resumeRound, seen_setRx]
  split <;> simp

@[simp] theorem resumeIfClear_setRx :
    resumeIfClear (setRx p x s) = setRx p x (resumeIfClear s) := by
  simp only [resumeIfClear, setRx_frame, seen_setRx]
  repeat' split
  all_goals simp

@[simp] theorem removePause_setRx (a : PauseCause) :
    removePause a (setRx p x s) = setRx p x (removePause a s) := by
  simp only [removePause, seen_setRx]
  split <;> simp

@[simp] theorem staleEnds_setRx :
    staleEnds (setRx p x s) = setRx p x (staleEnds s) := by
  simp only [staleEnds, setRx_frame]
  split <;> simp

@[simp] theorem enterWacFault_setRx :
    enterWacFault (setRx p x s) = setRx p x (enterWacFault s) := by
  simp only [enterWacFault, setRx_frame, basic_setRx]
  repeat' split
  all_goals simp

@[simp] theorem handOnDose_setRx (a : Dose) (b : WaterOutcome) (c : Leave) (d : Bool) :
    handOnDose a b c d (setRx p x s) = setRx p x (handOnDose a b c d s) := by
  simp only [handOnDose]
  repeat' split
  all_goals simp

@[simp] theorem endDose_setRx (a : Leave) (b : Bool) :
    endDose a b (setRx p x s) = setRx p x (endDose a b s) := by
  simp only [endDose, seen_setRx]
  split <;> simp

@[simp] theorem closeStep_setRx (a : Dose) :
    closeStep a (setRx p x s) = setRx p x (closeStep a s) := by
  simp only [closeStep, setRx_frame]
  split <;> simp

@[simp] theorem endSequence_setRx :
    endSequence (setRx p x s) = setRx p x (endSequence s) := by
  simp only [endSequence, setRx_frame]
  repeat' split
  all_goals simp

@[simp] theorem stopDosing_setRx :
    stopDosing (setRx p x s) = setRx p x (stopDosing s) := by
  simp only [stopDosing, seen_setRx]
  split <;> simp

@[simp] theorem decideWater_setRx (a : WaterOutcome) :
    decideWater a (setRx p x s) = setRx p x (decideWater a s) := by
  simp only [decideWater, seen_setRx]
  split <;> simp

@[simp] theorem stopDriving_setRx :
    stopDriving (setRx p x s) = setRx p x (stopDriving s) := by
  simp only [stopDriving, setRx_frame, seen_setRx]
  repeat' split
  all_goals simp

@[simp] theorem decideEqualise_setRx (a : EqOutcome) :
    decideEqualise a (setRx p x s) = setRx p x (decideEqualise a s) := by
  simp only [decideEqualise, seen_setRx]
  split <;> simp

@[simp] theorem dischargeArises_setRx :
    dischargeArises (setRx p x s) = setRx p x (dischargeArises s) := by
  simp [dischargeArises]

@[simp] theorem writePlant_setRx (a : PlantReport) :
    writePlant a (setRx p x s) = setRx p x (writePlant a s) := by
  simp only [writePlant, setRx_frame]
  split <;> simp

@[simp] theorem answerPlantStatus_setRx (a : Octet) (b : Quad) (c : Quad) (d : Quad) :
    answerPlantStatus a b c d (setRx p x s) = hearAnswer p x (answerPlantStatus a b c d s) := by
  simp only [answerPlantStatus, writePlant_setRx, setRx_frame]
  split <;> rfl

@[simp] theorem takePause_setRx :
    takePause (setRx p x s) = setRx p x (takePause s) := by
  simp only [takePause, setRx_frame, seen_setRx, basic_setRx]
  repeat' split
  all_goals simp

@[simp] theorem addPause_setRx (a : PauseCause) :
    addPause a (setRx p x s) = setRx p x (addPause a s) := by
  simp only [addPause, setRx_frame, seen_setRx]
  repeat' split
  all_goals simp

@[simp] theorem setHold_setRx :
    setHold (setRx p x s) = setRx p x (setHold s) := by
  simp only [setHold, setRx_frame]
  split <;> simp

@[simp] theorem answerHold_setRx :
    answerHold (setRx p x s) = hearAnswer p x (answerHold s) := by
  simp [answerHold]

@[simp] theorem clearHold_setRx :
    clearHold (setRx p x s) = setRx p x (clearHold s) := by
  simp only [clearHold, setRx_frame]
  split <;> simp

@[simp] theorem answerReleaseHold_setRx :
    answerReleaseHold (setRx p x s) = hearAnswer p x (answerReleaseHold s) := by
  simp [answerReleaseHold]

@[simp] theorem openWindow_setRx (a : ℕ) (b : ℕ) :
    openWindow a b (setRx p x s) = setRx p x (openWindow a b s) := by
  simp only [openWindow, setRx_frame]
  split <;> simp

@[simp] theorem answerOpenWindow_setRx (a : Half) (b : Half) :
    answerOpenWindow a b (setRx p x s) = hearAnswer p x (answerOpenWindow a b s) := by
  simp only [answerOpenWindow, openWindow_setRx, setRx_frame]
  split <;> rfl

@[simp] theorem closeWindowNow_setRx :
    closeWindowNow (setRx p x s) = setRx p x (closeWindowNow s) := by
  simp only [closeWindowNow, setRx_frame]
  split <;> simp

@[simp] theorem answerCloseWindow_setRx :
    answerCloseWindow (setRx p x s) = hearAnswer p x (answerCloseWindow s) := by
  simp [answerCloseWindow]

@[simp] theorem answerReadString_setRx (a : Octet) :
    answerReadString a (setRx p x s) = hearAnswer p x (answerReadString a s) := by
  simp only [answerReadString, seen_setRx]
  split <;> simp

@[simp] theorem answerReadRounds_setRx (a : Octet) :
    answerReadRounds a (setRx p x s) = hearAnswer p x (answerReadRounds a s) := by
  simp only [answerReadRounds, seen_setRx]
  split <;> simp

@[simp] theorem noticesResults_setRx (a : Port) :
    noticesResults a (setRx p x s) = noticesResults a s := by
  cases a <;> cases p <;> rfl

@[simp] theorem answerReadNotices_setRx (a : Port) :
    answerReadNotices a (setRx p x s) = hearAnswer p x (answerReadNotices a s) := by
  simp [answerReadNotices]

@[simp] theorem answerAckNotices_setRx (a : Port) (b : Half) :
    answerAckNotices a b (setRx p x s) = hearAnswer p x (answerAckNotices a b s) := by
  cases a <;> cases p <;> rfl

@[simp] theorem answerSetEnables_setRx (a : Port) (b : Half) :
    answerSetEnables a b (setRx p x s) = hearAnswer p x (answerSetEnables a b s) := by
  cases a <;> cases p <;> rfl

@[simp] theorem setSlot_setRx (a : SlotPort) (b : Slot) :
    setSlot a b (setRx p x s) = setRx p x (setSlot a b s) := by
  simp only [setSlot]
  split <;> simp

@[simp] theorem slotDone_setRx (a : SlotPort) (b : SlotResult) :
    slotDone a b (setRx p x s) = setRx p x (slotDone a b s) := by
  simp [slotDone]

@[simp] theorem grantSlot_setRx (a : SlotPort) (b : MemberNo) (c : LoopCommand) :
    grantSlot a b c (setRx p x s) = setRx p x (grantSlot a b c s) := by
  simp only [grantSlot, seen_setRx]
  split <;> simp

@[simp] theorem grantService_setRx :
    grantService (setRx p x s) = setRx p x (grantService s) := by
  simp only [grantService, setRx_frame]
  split <;> simp

@[simp] theorem placePass_setRx (a : SlotPort) (b : MemberNo) (c : LoopCommand) :
    placePass a b c (setRx p x s) = setRx p x (placePass a b c s) := by
  simp only [placePass, setRx_frame, seen_setRx, setSlot_setRx]
  repeat' split
  all_goals simp

@[simp] theorem judgePass_setRx (a : SlotPort) (b : MemberNo) (c : LoopCommand) :
    judgePass a b c (setRx p x s) = hearAnswer p x (judgePass a b c s) := by
  simp only [judgePass, seen_setRx]
  repeat' split
  all_goals simp

@[simp] theorem answerLoopTransaction_setRx (a : Port) (b : Octet) (c : Octet) (d : List Octet) :
    answerLoopTransaction a b c d (setRx p x s) = hearAnswer p x (answerLoopTransaction a b c d s) := by
  simp only [answerLoopTransaction]
  split <;> simp

@[simp] theorem answerLoopResult_setRx (a : Port) :
    answerLoopResult a (setRx p x s) = hearAnswer p x (answerLoopResult a s) := by
  simp only [answerLoopResult, seen_setRx]
  repeat' split
  all_goals simp

@[simp] theorem answerRequestRound_setRx (a : Octet) (b : Octet) (c : Octet) (d : Octet) (e : Octet) (f : Half) :
    answerRequestRound a b c d e f (setRx p x s) = hearAnswer p x (answerRequestRound a b c d e f s) := by
  simp only [answerRequestRound, seen_setRx, post_setRx]
  split
  · rfl
  · split
    · rfl
    · split <;> simp [hearAnswer, refuse]

@[simp] theorem cancelRunning_setRx (a : Kind) (b : StringNo) :
    cancelRunning a b (setRx p x s) = hearAnswer p x (cancelRunning a b s) := by
  simp only [cancelRunning, seen_setRx]
  repeat' split
  all_goals simp

@[simp] theorem answerCancelRound_setRx (a : Octet) (b : Octet) :
    answerCancelRound a b (setRx p x s) = hearAnswer p x (answerCancelRound a b s) := by
  simp only [answerCancelRound, setRx_frame]
  repeat' split
  all_goals simp

@[simp] theorem barEqualised_setRx (a : StringNo) (b : Option BarCause) (c : BarCause) :
    barEqualised a b c (setRx p x s) = setRx p x (barEqualised a b c s) := by
  simp only [barEqualised]
  split <;> simp

@[simp] theorem barWatered_setRx (a : StringNo) (b : Option BarCause) (c : BarCause) :
    barWatered a b c (setRx p x s) = setRx p x (barWatered a b c s) := by
  simp only [barWatered]
  split <;> simp

@[simp] theorem bar_setRx (a : StringNo) (b : BarCause) :
    bar a b (setRx p x s) = setRx p x (bar a b s) := by
  simp only [bar, seen_setRx]
  repeat' split
  all_goals simp

@[simp] theorem answerBar_setRx (a : Octet) :
    answerBar a (setRx p x s) = hearAnswer p x (answerBar a s) := by
  simp only [answerBar, seen_setRx]
  repeat' split
  all_goals simp

@[simp] theorem answerUnbar_setRx (a : Octet) :
    answerUnbar a (setRx p x s) = hearAnswer p x (answerUnbar a s) := by
  simp only [answerUnbar, setRx_frame, seen_setRx]
  repeat' split
  all_goals simp

@[simp] theorem answerClearEqualise_setRx :
    answerClearEqualise (setRx p x s) = hearAnswer p x (answerClearEqualise s) := by
  simp only [answerClearEqualise, setRx_frame, seen_setRx]
  repeat' split
  all_goals simp

@[simp] theorem answerClearWater_setRx :
    answerClearWater (setRx p x s) = hearAnswer p x (answerClearWater s) := by
  simp only [answerClearWater, setRx_frame, seen_setRx]
  repeat' split
  all_goals simp

@[simp] theorem answerClearChannel_setRx (a : Octet) :
    answerClearChannel a (setRx p x s) = hearAnswer p x (answerClearChannel a s) := by
  simp only [answerClearChannel]
  split <;> simp

@[simp] theorem grantRelease_setRx :
    grantRelease (setRx p x s) = setRx p x (grantRelease s) := by
  simp [grantRelease]

@[simp] theorem answerTakeLoop_setRx :
    answerTakeLoop (setRx p x s) = hearAnswer p x (answerTakeLoop s) := by
  simp only [answerTakeLoop, setRx_frame, seen_setRx, basic_setRx, addPause_setRx]
  repeat' split
  all_goals simp

@[simp] theorem servePumpOff_setRx :
    servePumpOff (setRx p x s) = setRx p x (servePumpOff s) := by
  simp only [servePumpOff, setRx_frame]
  split <;> simp

@[simp] theorem serveDetach_setRx :
    serveDetach (setRx p x s) = setRx p x (serveDetach s) := by
  simp only [serveDetach, setRx_frame]
  split <;> simp

@[simp] theorem sendBoost_setRx :
    sendBoost (setRx p x s) = setRx p x (sendBoost s) := by
  simp only [sendBoost, setRx_frame, seen_setRx]
  split <;> simp

@[simp] theorem sendStep_setRx (a : SafeStep) :
    sendStep a (setRx p x s) = setRx p x (sendStep a s) := by
  simp only [sendStep]
  split <;> simp

@[simp] theorem finishSafe_setRx (a : Bool) :
    finishSafe a (setRx p x s) = setRx p x (finishSafe a s) := by
  simp only [finishSafe]
  split <;> simp

@[simp] theorem nextSafe_setRx :
    nextSafe (setRx p x s) = setRx p x (nextSafe s) := by
  simp only [nextSafe, setRx_frame]
  split
  · have hd : SafeStep.dropped (setRx p x s) = SafeStep.dropped s := rfl
    rw [hd]
    split <;> simp
  · rfl

@[simp] theorem startSafe_setRx :
    startSafe (setRx p x s) = setRx p x (startSafe s) := by
  simp only [startSafe, setRx_frame, seen_setRx]
  split <;> simp

@[simp] theorem endRelease_setRx :
    endRelease (setRx p x s) = setRx p x (endRelease s) := by
  simp only [endRelease, setRx_frame, basic_setRx]
  repeat' split
  all_goals simp

@[simp] theorem answerGiveLoop_setRx :
    answerGiveLoop (setRx p x s) = hearAnswer p x (answerGiveLoop s) := by
  simp only [answerGiveLoop, setRx_frame]
  split <;> simp

@[simp] theorem answerLoopRaw_setRx (a : List Octet) :
    answerLoopRaw a (setRx p x s) = hearAnswer p x (answerLoopRaw a s) := by
  simp only [answerLoopRaw, setRx_frame, seen_setRx]
  repeat' split
  all_goals simp

@[simp] theorem answerClearOverflow_setRx :
    answerClearOverflow (setRx p x s) = hearAnswer p x (answerClearOverflow s) := by
  simp only [answerClearOverflow, setRx_frame]
  split <;> simp

@[simp] theorem answerReadLog_setRx (a : Octet) (b : Octet) :
    answerReadLog a b (setRx p x s) = hearAnswer p x (answerReadLog a b s) := by
  unfold answerReadLog
  repeat' split
  all_goals simp_all

@[simp] theorem answerReleaseSegment_setRx (a : Octet) :
    answerReleaseSegment a (setRx p x s) = hearAnswer p x (answerReleaseSegment a s) := by
  simp only [answerReleaseSegment, setRx_frame]
  split
  · rfl
  · split <;> rfl

@[simp] theorem judgeDemand_setRx :
    judgeDemand (setRx p x s) = setRx p x (judgeDemand s) := by
  simp only [judgeDemand, setRx_frame, seen_setRx]
  repeat' split
  all_goals simp

@[simp] theorem consequences_setRx (a : Settings) (b : Setting) :
    consequences a b (setRx p x s) = setRx p x (consequences a b s) := by
  simp only [consequences, setRx_frame]
  repeat' split
  all_goals simp

@[simp] theorem takeWrite_setRx (a : Setting) (b : Settings) :
    takeWrite a b (setRx p x s) =
        setRx p x (takeWrite a b s) :=
  consequences_setRx p x { s with settings := b, store := { s.store with modified := true } } s.settings a

@[simp] theorem writeSetting_setRx (a : Octet) (b : Octet) (c : List Octet) :
    writeSetting a b c (setRx p x s) = (setRx p x (writeSetting a b c s).1, (writeSetting a b c s).2) := by
  simp only [writeSetting, setRx_frame, seen_setRx]
  repeat' split
  all_goals simp

@[simp] theorem answerWriteSetting_setRx (a : Octet) (b : Octet) (c : List Octet) :
    answerWriteSetting a b c (setRx p x s) = hearAnswer p x (answerWriteSetting a b c s) := by
  simp only [answerWriteSetting, writeSetting_setRx]
  rfl

@[simp] theorem answerReadSetting_setRx (a : Octet) (b : Octet) :
    answerReadSetting a b (setRx p x s) = hearAnswer p x (answerReadSetting a b s) := by
  simp only [answerReadSetting, setRx_frame]
  split <;> simp

@[simp] theorem answerStoreSettings_setRx :
    answerStoreSettings (setRx p x s) = hearAnswer p x (answerStoreSettings s) := by
  simp only [answerStoreSettings, setRx_frame]
  split <;> simp

@[simp] theorem owner_setRx (q : Port) (r : Request) :
    owner q r (setRx p x s) = hearAnswer p x (owner q r s) := by
  cases r <;> simp [owner]
end

end Sys2Proof.Laws
end

section
/-! SUPPORT. A request's frame, character by character. -/

namespace Sys2Proof.Laws

open Sys2Proof.Machine

/-! ### A request's frame, character by character (R164, R165) -/

theorem answer_setRx (p q : Port) (x : RxState) (r : Request) (s : State) :
    answer q r (setRx p x s) = hearAnswer p x (answer q r s) := by
  unfold answer
  split
  · simp
  · split <;> simp

theorem oweReply_hearAnswer (p : Port) (code tag : Octet) (x : RxState) (a : Answer) :
    oweReply p code tag (hearAnswer p x a) = oweReply p code tag a :=
  setRx_setRx p _ x a.state

/-- What the port has taken of a frame does not count for its answer (R165). -/
theorem serve_setRx (p : Port) (tag : Octet) (r : Request) (x : RxState) (s : State) :
    serve p tag r (setRx p x s) = serve p tag r s := by
  rw [serve, answer_setRx, oweReply_hearAnswer]
  rfl

theorem knownCode_code (r : Request) : knownCode r.code = true := by
  cases r <;> rfl

theorem answerBody_params (p : Port) (r : Request) (s : State)
    (h : Request.ofParams r.code r.params = some r) : answerBody p r.code r.params s = answer p r s := by
  unfold answerBody
  rw [h]
  cases hp : permitted p r.code <;> simp [answer, hp]

/-- A request's own frame, complete and whole, is served. -/
theorem judgeFrame_request (p : Port) (tag : Octet) (r : Request) (s : State)
    (h : Request.ofParams r.code r.params = some r) :
    let body := r.code :: tag :: r.params
    let n := BitVec.ofNat 8 body.length
    judgeFrame p n (body ++ [-octetSum (n :: body)]) false s = serve p tag r s := by
  intro body n
  have hsum : octetSum (n :: (body ++ [-octetSum (n :: body)])) = 0 := octetSum_checked (n :: body)
  simp only [judgeFrame, hsum, List.dropLast_concat]
  rw [if_neg (by simp)]
  change (if knownCode r.code then oweReply p r.code tag (answerBody p r.code r.params s) else _) = _
  rw [if_pos (knownCode_code r), answerBody_params p r s h]
  rfl

theorem receiveChars_request (s : State) (p : Port) (tag : Octet) (r : Request) (h : rxOf s p = .hunt)
    (hl : r.params.length ≤ 62) (hread : Request.ofParams r.code r.params = some r) :
    receiveChars p (onLine (r.frame tag)) s = serve p tag r s := by
  let body := r.code :: tag :: r.params
  let n := BitVec.ofNat 8 body.length
  have hn : n.toNat = body.length := by
    change (BitVec.ofNat 8 (r.params.length + 2)).toNat = r.params.length + 2
    rw [BitVec.toNat_ofNat]
    omega
  have hlen : body.length = r.params.length + 2 := rfl
  calc receiveChars p (onLine (r.frame tag)) s =
        receiveChars p (onLine (0xA5 :: n :: body ++ [-octetSum (n :: body)])) s := rfl
    _ = judgeFrame p n (body ++ [-octetSum (n :: body)]) false (setRx p (.frame (some n) body false) s) :=
        receiveChars_frame n _ body h hn.symm (by omega)
    _ = serve p tag r s := by rw [judgeFrame_request p tag r _ hread, serve_setRx]

/-- The command of a request is the arrival of that request (Table 10.3). -/
theorem exec_commandOf {p : Port} {tag : Octet} {r : Request} {c : Instr} (h : commandOf p tag r = some c) (s : State) :
    exec c s = .next (arrive p tag r s) := by
  cases r
  case readRounds n =>
    obtain ⟨hlt, hc⟩ := List.getElem?_eq_some_iff.mp h
    have hn : n = 0 ∨ n = 1 ∨ n = 2 ∨ n = 3 ∨ n = 4 ∨ n = 5 := by
      simp only [List.length_cons, List.length_nil] at hlt
      bv_omega
    obtain rfl | rfl | rfl | rfl | rfl | rfl := hn <;> exact hc ▸ rfl
  case clearChannel n =>
    obtain ⟨hlt, hc⟩ := List.getElem?_eq_some_iff.mp h
    have hn : n = 0 ∨ n = 1 := by
      simp only [List.length_cons, List.length_nil] at hlt
      bv_omega
    obtain rfl | rfl := hn <;> exact hc ▸ rfl
  all_goals
    obtain rfl := Option.some.inj h
    rfl

/-- The answer to a request by permission, then shape, then owner (R165). -/
theorem serve_judged (p : Port) (tag : Octet) (r : Request) (s : State) :
    serve p tag r s = if permitted p r.code then
      (if r.wellShaped then serve p tag r s else owing p r.code tag .range [] s)
      else owing p r.code tag .notPermitted [] s := by
  cases hp : permitted p r.code with
  | false =>
    rw [serve_eq, answer_notPermitted p r s hp]
    rfl
  | true =>
    cases hw : r.wellShaped with
    | true => rfl
    | false =>
      have : answer p r s = refuse .range s := by simp [answer, hp, hw]
      rw [serve_eq, this]
      rfl

/-- Settles O54: the characters before the check octet leave what the port has taken and nothing beside, which the
answer does not read. -/
theorem charactersMakeTheRequest : Obligations.CharactersMakeTheRequest := by
  intro s p tag r h hl hd
  have hunt : rxOf s p = .hunt := of_decide_eq_true h
  have hread : Request.ofParams r.code r.params = some r :=
    ofParams_params r fun m c d hr => by have := hd m c d hr; omega
  have hchars := receiveChars_request s p tag r hunt hl hread
  exact ⟨hchars.trans (serve_judged p tag r s), fun c hc => by
    rw [exec_commandOf hc s, arrive_hunt p tag r s hunt hl, hchars]⟩

end Sys2Proof.Laws
end

section
/-! SUPPORT. What the promise of the holders speaks of. -/

namespace Sys2Proof.Laws

open Sys2Proof.Machine

/-! ### What the promise of the holders speaks of (R6, R62, R103) -/

/-- The parts of a state that `holdersKept` and `workKept` read: who holds each string, the string of the round, the string
of the dose and whether PUMP ON has been sent for it, the two channels, their claims, the claimant in flight and the
release. -/
structure HoldView where
  holder : StringNo → Holder
  round : Option StringNo
  eqc : EqcState
  dose : Option (StringNo × Bool)
  wac : WacState
  valve : LinkRecord
  pump : PumpRecord
  clear : Bool
  claimE : Option EqJob
  claimW : Option WaterJob
  fly : Option Claimant
  release : Release

/-- Who the transaction in flight is carried out for. -/
def claimantOf : Option InFlight → Option Claimant
  | some (.transaction t) => some t.claimant
  | _ => none

def viewOf (strings : Vector StringRecord 8) (e : Eqc) (w : Wac) (l : Machine.Loop) : HoldView where
  holder i := strings[i].state.holder
  round := e.round.map Round.string
  eqc := e.state
  dose := w.dose.map fun d => (d.string, d.pumpOnSent)
  wac := w.state
  valve := w.valve
  pump := w.pump
  clear := w.clear
  claimE := l.claimEqualise
  claimW := l.claimWater
  fly := claimantOf l.inFlight
  release := l.release

def viewed (s : State) : HoldView := viewOf s.strings s.eqc s.wac s.loop

/-- `WaterJob.fits` on what it reads. -/
def HoldView.fits (v : HoldView) (flying : Bool) : WaterJob → Prop
  | .openValve i => v.wac = .open ∧ ∃ b, v.dose = some (i, b)
  | .pumpOn => v.wac = .pump ∧ ∃ i b, v.dose = some (i, b) ∧ v.valve.holds i = true ∧ (flying = true → b = true)
  | .pumpOff => v.wac = .stop
  | .closeValve _ => v.wac = .close ∧ v.pump = .off
  | .clearPumpOff => v.wac = .fault ∧ v.clear = true
  | .clearClose i => v.wac = .fault ∧ v.clear = true ∧ v.pump = .off ∧ v.valve.holds i = true
  | .check | .reservoirPoll | .dosePoll | .faultPumpOff => True

/-- The loop is released, or in the safe-state sequence. -/
def Release.on : Release → Prop
  | .released _ | .safeState _ _ => True
  | .free | .pending => False

def Release.safe : Release → Prop
  | .safeState _ _ => True
  | _ => False

/-- `holdersKept` and `workKept`, clause by clause. -/
structure HoldView.Agrees (v : HoldView) : Prop where
  eqHolder : ∀ i, v.holder i = .eqc ↔ v.round = some i
  eqContext : v.round ≠ none → v.eqc ≠ .idle ∧ v.eqc ≠ .fault
  eqClaim : v.claimE = some .clearDetach → v.eqc = .fault
  eqFly : v.fly = some (.equalise .clearDetach) → v.eqc = .fault ∧ v.claimE ≠ some .clearDetach
  eqSafe : v.fly = some (.safeState .detach) → v.claimE ≠ some .clearDetach
  doseHeld : ∀ i b, v.dose = some (i, b) → v.holder i = .wac
  waHolder : ∀ i, v.holder i = .wac →
    (∃ b, v.dose = some (i, b)) ∨ (v.dose = none ∧ v.wac = .fault ∧ v.valve.holds i = true)
  idlePump : v.wac = .idle → v.pump = .off
  doseState : ∀ i b, v.dose = some (i, b) →
    v.wac ≠ .idle ∧ v.wac ≠ .fault ∧ (v.pump = .off ∨ b = true ∧ v.valve.holds i = true)
  claimFits : ∀ j, v.claimW = some j → v.fits false j
  flyFits : ∀ j, v.fly = some (.water j) → v.fits true j
  flyAlone : ∀ j k, v.fly = some (.water j) → v.claimW = some k → j.alone = true → k.alone = false
  safeRelease : ∀ j, v.fly = some (.safeState j) → Release.safe v.release
  safePump : v.fly = some (.safeState .pumpOff) → v.claimW ≠ some .clearPumpOff
  released : Release.on v.release → v.valve = .empty ∧ v.pump = .off ∧ v.dose = none

/-! ### The view over the basic updates -/

section
variable (s : State)

@[simp] theorem viewed_setRound (r : Round) : viewed (setRound r s) = { viewed s with round := some r.string } := rfl

@[simp] theorem viewed_setEqcState (x : EqcState) : viewed (setEqcState x s) = { viewed s with eqc := x } := rfl

theorem viewed_modRound {f : Round → Round} (hf : ∀ r, (f r).string = r.string) : viewed (modRound f s) = viewed s := by
  simp only [viewed, viewOf, modRound, modEqc, Option.map_map]
  congr 1
  cases s.eqc.round <;> simp [hf]

@[simp] theorem viewed_claimEqualise (j : EqJob) :
    viewed (claimEqualise j s) = { viewed s with claimE := some j } := rfl

@[simp] theorem viewed_withdrawEqualise : viewed (withdrawEqualise s) = { viewed s with claimE := none } := rfl

@[simp] theorem viewed_setDose (d : Dose) :
    viewed (setDose d s) = { viewed s with dose := some (d.string, d.pumpOnSent) } := rfl

@[simp] theorem viewed_setWacState (x : WacState) : viewed (setWacState x s) = { viewed s with wac := x } := rfl

@[simp] theorem viewed_setValve (l : LinkRecord) : viewed (setValve l s) = { viewed s with valve := l } := rfl

@[simp] theorem viewed_setPump (x : PumpRecord) : viewed (setPump x s) = { viewed s with pump := x } := rfl

@[simp] theorem viewed_claimWater (j : WaterJob) : viewed (claimWater j s) = { viewed s with claimW := some j } := rfl

@[simp] theorem viewed_withdrawWater : viewed (withdrawWater s) = { viewed s with claimW := none } := rfl

@[simp] theorem viewed_setInFlight (x : Option InFlight) :
    viewed (setInFlight x s) = { viewed s with fly := claimantOf x } := rfl

@[simp] theorem viewed_startTransaction (c : Claimant) (m : MemberNo) (k : LoopCommand) :
    viewed (startTransaction c m k s) = { viewed s with fly := some c } := rfl

@[simp] theorem viewed_setRelease (r : Release) : viewed (setRelease r s) = { viewed s with release := r } := rfl

theorem viewed_setStringState (i : StringNo) (x : StringState) :
    viewed (setStringState i x s) = { viewed s with holder := Function.update (viewed s).holder i x.holder } := by
  simp only [viewed, viewOf, setStringState, modString]
  congr 1
  funext j
  by_cases h : j = i
  · subst h; simp
  · have : i.val ≠ j.val := fun hv => h (Fin.ext hv.symm)
    simp [this, h]

@[simp] theorem viewed_raise (n : Notice) : viewed (raise n s) = viewed s := rfl

@[simp] theorem viewed_modSweep (f : Sweep → Sweep) : viewed (modSweep f s) = viewed s := rfl

@[simp] theorem viewed_logWrite (r : LogRecord) : viewed (logWrite r s) = viewed s := by
  simp [viewed]

@[simp] theorem viewed_post (e : QueueEntry) : viewed (post e s).1 = viewed s := by
  simp [viewed]

@[simp] theorem viewed_removeBarred (i : StringNo) : viewed (removeBarred i s) = viewed s := by
  simp [viewed]

@[simp] theorem viewed_cancelEntry (c : Cause) (e : QueueEntry) : viewed (cancelEntry c e s) = viewed s := by
  simp [viewed]
end

end Sys2Proof.Laws
end

section
/-! SUPPORT. The promise of the holders and the work, clause by clause. -/

namespace Sys2Proof.Laws

open Sys2Proof.Machine

/-! ### The promise is the model's own -/

theorem fits_iff (s : State) (flying : Bool) (j : WaterJob) :
    (viewed s).fits flying j ↔ j.fits flying s.wac = true := by
  cases j
  case openValve i =>
    simp only [HoldView.fits, WaterJob.fits, viewed, viewOf]
    cases s.wac.dose <;> simp
  case pumpOn =>
    simp only [HoldView.fits, WaterJob.fits, viewed, viewOf]
    cases s.wac.dose with
    | none => simp
    | some d =>
      cases flying with
      | false => simp
      | true =>
        simp
        grind
  all_goals simp [HoldView.fits, WaterJob.fits, viewed, viewOf, and_assoc]

theorem beq_decide_iff (p q : Prop) [Decidable p] [Decidable q] : (decide p == decide q) = true ↔ (p ↔ q) := by
  rw [beq_iff_eq, decide_eq_decide]

theorem holdersKept_iff (s : State) :
    holdersKept s = true ↔ ∀ i, ((viewed s).holder i = .eqc ↔ (viewed s).round = some i)
      ∧ (∀ b, (viewed s).dose = some (i, b) → (viewed s).holder i = .wac)
      ∧ ((viewed s).holder i = .wac → (∃ b, (viewed s).dose = some (i, b))
        ∨ ((viewed s).dose = none ∧ (viewed s).wac = .fault ∧ (viewed s).valve.holds i = true)) := by
  unfold holdersKept
  rw [List.all_eq_true]
  refine ⟨fun h i => ?_, fun h i _ => ?_⟩
  · have := h i (List.mem_finRange i)
    simp only [Bool.and_eq_true, beq_decide_iff, Bool.or_eq_true, decide_eq_true_eq] at this
    simp only [viewed, viewOf, recordOf] at this ⊢
    cases hd : s.wac.dose <;> grind
  · have := h i
    simp only [Bool.and_eq_true, beq_decide_iff, Bool.or_eq_true, decide_eq_true_eq]
    simp only [viewed, viewOf, recordOf] at this ⊢
    cases hd : s.wac.dose <;> grind

theorem contextsKept_iff (s : State) :
    contextsKept s = true ↔ ((viewed s).round ≠ none → (viewed s).eqc ≠ .idle ∧ (viewed s).eqc ≠ .fault)
      ∧ ((viewed s).wac = .idle → (viewed s).pump = .off)
      ∧ ∀ i b, (viewed s).dose = some (i, b) → (viewed s).wac ≠ .idle ∧ (viewed s).wac ≠ .fault
        ∧ ((viewed s).pump = .off ∨ b = true ∧ (viewed s).valve.holds i = true) := by
  simp only [contextsKept, Bool.and_eq_true, Bool.or_eq_true, decide_eq_true_eq, viewed, viewOf]
  cases s.eqc.round <;> cases s.wac.dose <;> simp <;> grind

theorem jobsKept_iff (s : State) :
    jobsKept s = true ↔ ((viewed s).claimE = some .clearDetach → (viewed s).eqc = .fault)
      ∧ ((viewed s).fly = some (.equalise .clearDetach) →
        (viewed s).eqc = .fault ∧ (viewed s).claimE ≠ some .clearDetach)
      ∧ ((viewed s).fly = some (.safeState .detach) → (viewed s).claimE ≠ some .clearDetach)
      ∧ (∀ j, (viewed s).claimW = some j → (viewed s).fits false j)
      ∧ (∀ j, (viewed s).fly = some (.water j) → (viewed s).fits true j)
      ∧ (∀ j k, (viewed s).fly = some (.water j) → (viewed s).claimW = some k → j.alone = true → k.alone = false)
      ∧ (∀ j, (viewed s).fly = some (.safeState j) → Release.safe (viewed s).release)
      ∧ ((viewed s).fly = some (.safeState .pumpOff) → (viewed s).claimW ≠ some .clearPumpOff) := by
  simp only [fits_iff]
  unfold jobsKept
  simp only [Bool.and_eq_true, Bool.or_eq_true, decide_eq_true_eq, viewed, viewOf]
  cases s.loop.inFlight with
  | none => simp [claimantOf]; grind
  | some x =>
    cases x with
    | poll _ => simp [claimantOf]; grind
    | raw _ => simp [claimantOf]; grind
    | transaction t =>
      obtain ⟨c, _, _, _, _, _, _⟩ := t
      cases c with
      | water j => simp only [claimantOf]; cases s.loop.claimWater <;> simp <;> grind
      | equalise j => cases j <;> simp [claimantOf] <;> grind
      | safeState j => cases s.loop.release <;> cases j <;> simp [claimantOf, Release.safe] <;> grind
      | reconfiguration _ => simp [claimantOf]; grind
      | sweep _ => simp [claimantOf]; grind
      | slot _ => simp [claimantOf]; grind

theorem releaseKept_iff (s : State) :
    releaseKept s = true ↔ (Release.on (viewed s).release →
      (viewed s).valve = .empty ∧ (viewed s).pump = .off ∧ (viewed s).dose = none) := by
  simp only [releaseKept, viewed, viewOf]
  cases s.loop.release <;> simp [Release.on, and_assoc]

theorem agrees_iff (s : State) : (viewed s).Agrees ↔ holdersKept s = true ∧ workKept s = true := by
  simp only [workKept, Bool.and_eq_true, holdersKept_iff, contextsKept_iff, jobsKept_iff, releaseKept_iff]
  constructor
  · rintro ⟨h1, h2, h3, h4, h5, h6, h7, h8, h9, h10, h11, h12, h13, h14, h15⟩
    exact ⟨fun i => ⟨h1 i, h6 i, h7 i⟩, ⟨⟨h2, h8, h9⟩, h3, h4, h5, h10, h11, h12, h13, h14⟩, h15⟩
  · rintro ⟨h, ⟨⟨h2, h8, h9⟩, h3, h4, h5, h10, h11, h12, h13, h14⟩, h15⟩
    exact ⟨fun i => (h i).1, h2, h3, h4, h5, fun i => (h i).2.1, fun i => (h i).2.2, h8, h9, h10, h11, h12, h13, h14, h15⟩

end Sys2Proof.Laws
end

section
/-! SUPPORT. The holders over the Equalise Channel. -/

namespace Sys2Proof.Laws

open Sys2Proof.Machine

/-! ### What the Equalise Channel's updates keep -/

namespace HoldView.Agrees

variable {v : HoldView}

/-- With a round, no clear of the Equalise Channel is claimed or in flight. -/
theorem noClear (h : v.Agrees) (hr : v.round ≠ none) :
    v.claimE ≠ some .clearDetach ∧ v.fly ≠ some (.equalise .clearDetach) := by
  obtain ⟨-, hf⟩ := h.eqContext hr
  exact ⟨fun hc => hf (h.eqClaim hc), fun hc => hf (h.eqFly hc).1⟩

theorem claimE (h : v.Agrees) {j : EqJob} (hj : j ≠ .clearDetach) : { v with claimE := some j }.Agrees where
  __ := h
  eqClaim hc := absurd (Option.some.inj hc) hj
  eqFly hc := ⟨(h.eqFly hc).1, fun hc' => hj (Option.some.inj hc')⟩
  eqSafe _ hc' := hj (Option.some.inj hc')

theorem withdrawE (h : v.Agrees) : { v with claimE := none }.Agrees where
  __ := h
  eqClaim hc := by cases hc
  eqFly hc := ⟨(h.eqFly hc).1, by simp⟩
  eqSafe _ := by simp

theorem driving (h : v.Agrees) (hr : v.round ≠ none) {x : EqcState} (hi : x ≠ .idle) (hf : x ≠ .fault) :
    { v with eqc := x }.Agrees where
  __ := h
  eqContext _ := ⟨hi, hf⟩
  eqClaim hc := absurd hc (h.noClear hr).1
  eqFly hc := absurd hc (h.noClear hr).2

theorem faulted (h : v.Agrees) (hr : v.round = none) : { v with eqc := .fault }.Agrees where
  __ := h
  eqContext hn := absurd hr hn
  eqClaim _ := rfl
  eqFly hc := ⟨rfl, (h.eqFly hc).2⟩

/-- The round ends: its string is held no more. -/
theorem roundEnds (h : v.Agrees) {i : StringNo} (hr : v.round = some i) (x : EqcState) :
    { v with holder := Function.update v.holder i .none, round := none, eqc := x }.Agrees where
  __ := h
  eqHolder j := by
    have hj := h.eqHolder j
    by_cases hij : j = i
    · simp [hij]
    · simp [hij, hj, hr, Ne.symm hij]
  eqContext hn := absurd rfl hn
  eqClaim hc := absurd hc (h.noClear (by simp [hr])).1
  eqFly hc := absurd hc (h.noClear (by simp [hr])).2
  doseHeld j b hd := by
    have hj := h.doseHeld j b hd
    have hi := (h.eqHolder i).mpr hr
    by_cases hij : j = i
    · rw [hij, hi] at hj; cases hj
    · simpa [hij] using hj
  waHolder j hj := by
    by_cases hij : j = i
    · simp [hij] at hj
    · exact h.waHolder j (by simpa [hij] using hj)

/-- A round begins on a string nobody holds, from IDLE. -/
theorem roundBegins (h : v.Agrees) {i : StringNo} (hi : v.holder i = .none) (he : v.eqc = .idle) :
    { v with holder := Function.update v.holder i .eqc, round := some i, eqc := .connect }.Agrees where
  __ := h
  eqHolder j := by
    have hr : v.round = none := by
      by_contra hn
      exact (h.eqContext hn).1 he
    have hj := h.eqHolder j
    by_cases hij : j = i
    · simp [hij]
    · simp [hij, hj, hr, Ne.symm hij]
  eqContext _ := ⟨by simp, by simp⟩
  eqClaim hc := by
    have := h.eqClaim hc
    simp [he] at this
  eqFly hc := by
    have := (h.eqFly hc).1
    simp [he] at this
  doseHeld j b hd := by
    have hj := h.doseHeld j b hd
    by_cases hij : j = i
    · rw [hij, hi] at hj; cases hj
    · simpa [hij] using hj
  waHolder j hj := by
    by_cases hij : j = i
    · simp [hij] at hj
    · exact h.waHolder j (by simpa [hij] using hj)

/-- A clear that is done brings IDLE, once its DETACH has landed and none waits. -/
theorem cleared (h : v.Agrees) (he : v.eqc = .fault) (hc : v.claimE ≠ some .clearDetach)
    (hf : v.fly ≠ some (.equalise .clearDetach)) : { v with eqc := .idle }.Agrees where
  __ := h
  eqContext hr := absurd he (h.eqContext hr).2
  eqClaim hn := absurd hn hc
  eqFly hn := absurd hn hf

end HoldView.Agrees

/-- The holders and the work of a state agree. -/
def agreeing (s : State) : Prop := (viewed s).Agrees

theorem agreeing_of_viewed {s t : State} (h : agreeing s) (e : viewed t = viewed s) : agreeing t := by
  rw [agreeing, e]
  exact h

section
variable {s : State}

theorem viewed_round {r : Round} (h : s.eqc.round = some r) : (viewed s).round = some r.string := by
  simp [viewed, viewOf, h]

theorem viewed_round_ne_none (h : s.eqc.round.isSome) : (viewed s).round ≠ none := by
  obtain ⟨r, hr⟩ := Option.isSome_iff_exists.mp h
  simp [viewed_round hr]

theorem viewed_round_eq_none (h : agreeing s) (he : s.eqc.state = .idle ∨ s.eqc.state = .fault) :
    (viewed s).round = none := by
  by_contra hn
  obtain ⟨hi, hf⟩ := h.eqContext hn
  exact he.elim hi hf

theorem viewed_setRound_same {r r' : Round} (hr : s.eqc.round = some r) (hs : r'.string = r.string) :
    viewed (setRound r' s) = viewed s := by
  rw [viewed_setRound, hs, ← viewed_round hr]

theorem agrees_setRound {r r' : Round} (h : agreeing s) (hr : s.eqc.round = some r) (hs : r'.string = r.string) :
    agreeing (setRound r' s) :=
  agreeing_of_viewed h (viewed_setRound_same hr hs)

theorem agrees_modRound {f : Round → Round} (h : agreeing s) (hf : ∀ r, (f r).string = r.string) :
    agreeing (modRound f s) :=
  agreeing_of_viewed h (viewed_modRound s hf)

theorem viewed_stopTimer : viewed (stopTimer s) = viewed s := viewed_modRound s fun _ => rfl

theorem agrees_stopTimer (h : agreeing s) : agreeing (stopTimer s) := agreeing_of_viewed h viewed_stopTimer

theorem agrees_claimEqualise {j : EqJob} (h : agreeing s) (hj : j ≠ .clearDetach) : agreeing (claimEqualise j s) :=
  h.claimE hj

theorem agrees_withdrawEqualise (h : agreeing s) : agreeing (withdrawEqualise s) := h.withdrawE

theorem agrees_driving {x : EqcState} (h : agreeing s) (hr : s.eqc.round.isSome) (hi : x ≠ .idle) (hf : x ≠ .fault) :
    agreeing (setEqcState x s) :=
  h.driving (viewed_round_ne_none hr) hi hf

theorem agrees_enterEqcFault (h : agreeing s) (hr : (viewed s).round = none) : agreeing (enterEqcFault s) :=
  h.faulted hr

/-! ### The Equalise Channel (Machine/Equalise.lean) -/

theorem viewed_takeEqualiseOutcome (i : StringNo) (o : EqOutcome) (s : State) :
    viewed (takeEqualiseOutcome i o s) = viewed s := by
  simp only [viewed, viewOf, takeEqualiseOutcome, modString]
  congr 1
  funext j
  by_cases hij : i.val = j.val
  · simp only [Fin.getElem_fin, Vector.getElem_set, hij, if_true]
    split <;> rfl
  · simp [hij]

theorem viewed_takeWaterOutcome (i : StringNo) (o : WaterOutcome) (n : Nat) (s : State) :
    viewed (takeWaterOutcome i o n s) = viewed s := by
  simp only [viewed, viewOf, takeWaterOutcome, modString]
  congr 1
  funext j
  by_cases hij : i.val = j.val
  · simp only [Fin.getElem_fin, Vector.getElem_set, hij, if_true]
    split <;> rfl
  · simp [hij]

/-- A string released is held no more (R10, R12). -/
theorem viewed_releaseString (i : StringNo) (m : Option BarCause) (n : Option Nat) (s : State) :
    viewed (releaseString i m n s) = { viewed s with holder := Function.update (viewed s).holder i .none } := by
  have left (b : Option BarCause) : (releasedState b m n).holder = .none := by
    unfold releasedState
    repeat' split
    all_goals rfl
  have gone (hn : (viewed s).holder i = .none) :
      viewed s = { viewed s with holder := Function.update (viewed s).holder i .none } := by
    rw [← hn, Function.update_eq_self]
  unfold releaseString
  dsimp only
  split
  · split <;> simp [viewed_setStringState, left]
  · split <;> simp [viewed_setStringState, left]
  · rename_i hst hst'
    refine gone ?_
    change (recordOf s i).state.holder = .none
    cases hx : (recordOf s i).state <;> simp_all [StringState.holder]

theorem viewed_handDose (r : Round) (o : EqOutcome) (s : State) : viewed (handDose r o s).1 = viewed s := by
  simp [viewed]

theorem viewed_handOnRound (r : Round) (o : EqOutcome) (a b : Bool) (s : State) :
    viewed (handOnRound r o a b s) =
      { viewed s with
        holder := Function.update (viewed s).holder r.string .none
        round := none
        eqc := if b then .fault else .idle } := by
  have idle (u : State) : viewed (modEqc (fun e => { e with round := none, state := .idle }) u) =
      { viewed u with round := none, eqc := .idle } := rfl
  have fault (u : State) : viewed (enterEqcFault u) = { viewed u with eqc := .fault } := rfl
  unfold handOnRound
  cases b
  · simp [idle, viewed_handDose, viewed_releaseString, viewed_takeEqualiseOutcome]
  · simp [idle, fault, viewed_handDose, viewed_releaseString, viewed_takeEqualiseOutcome]

theorem agrees_endRound (a b : Bool) (h : agreeing s) : agreeing (endRound a b s) := by
  unfold endRound
  split
  · rename_i r o hd
    have hr : s.eqc.round = some r := by
      unfold decidedRound at hd
      cases hr : s.eqc.round <;> simp_all
    rw [agreeing, viewed_handOnRound]
    exact h.roundEnds (viewed_round hr) _
  · exact h

theorem agrees_enterDetach (h : agreeing s) (hr : s.eqc.round.isSome) : agreeing (enterDetach s) := by
  unfold enterDetach
  refine agrees_claimEqualise (agrees_driving (agrees_modRound h fun _ => rfl) ?_ ?_ ?_) ?_
  · simpa [modRound] using hr
  all_goals simp

theorem agrees_stopDriving (h : agreeing s) (hr : s.eqc.round.isSome) : agreeing (stopDriving s) := by
  have detached := agrees_enterDetach h hr
  have stopped := agrees_stopTimer h
  have driven (c : Bool) : agreeing (if c then stopTimer s else enterDetach s) := by
    split
    · exact stopped
    · exact detached
  unfold stopDriving
  split
  · split
    · exact h
    · split
      · split
        · exact detached
        · exact agrees_endRound _ _ (agrees_withdrawEqualise h)
      · exact detached
  · exact driven _
  · exact driven _
  · split
    · exact agrees_withdrawEqualise stopped
    · exact driven _
  · exact h

theorem agrees_decideEqualise (o : EqOutcome) (h : agreeing s) : agreeing (decideEqualise o s) := by
  unfold decideEqualise
  split
  · rename_i r hr
    exact agrees_stopDriving (agrees_setRound h (Basic.openRound_eq_some hr).1 rfl) rfl
  · exact h

theorem agrees_boostDistrusted (c : Cause) (h : agreeing s) : agreeing (boostDistrusted c s) := by
  unfold boostDistrusted
  split
  · rename_i hst
    exact agrees_claimEqualise (agrees_enterEqcFault h (viewed_round_eq_none h (.inl hst))) (by simp)
  · exact h
  · exact agrees_decideEqualise _ (agrees_modRound h fun _ => rfl)

theorem agrees_resumeRound {r : Round} (h : agreeing s) (hr : s.eqc.round = some r) : agreeing (resumeRound r s) := by
  unfold resumeRound
  dsimp only
  split
  · exact agrees_setRound h hr rfl
  · refine agrees_driving (agrees_setRound h hr rfl) rfl ?_ ?_
    all_goals
      split_ifs
      all_goals simp

theorem agrees_resumeIfClear (h : agreeing s) : agreeing (resumeIfClear s) := by
  unfold resumeIfClear
  split
  · rename_i r _ hr
    split
    · exact agrees_resumeRound h (Basic.openRound_eq_some hr).1
    · exact h
  · exact h

theorem agrees_enterPaused (ph : Phase) (h : agreeing s) (hr : s.eqc.round.isSome) : agreeing (enterPaused ph s) := by
  unfold enterPaused
  refine agrees_resumeIfClear (agreeing_of_viewed (s := setEqcState .paused _) ?_ (viewed_raise _ _))
  exact agrees_driving (agrees_modRound h fun _ => rfl) (by simpa [modRound] using hr) (by simp) (by simp)

theorem agrees_placePauseStandby (h : agreeing s) : agreeing (placePauseStandby s) :=
  agrees_claimEqualise (agrees_modRound h fun _ => rfl) (by simp)

theorem agrees_takePause (h : agreeing s) : agreeing (takePause s) := by
  have h1 := agrees_stopTimer h
  unfold takePause
  dsimp only
  split
  · exact h1
  · exact agrees_modRound h1 fun _ => rfl
  · split
    · exact h1
    · exact agrees_placePauseStandby h1

theorem agrees_addPause (c : PauseCause) (h : agreeing s) : agreeing (addPause c s) := by
  unfold addPause
  split
  · exact h
  · rename_i r hr
    have h1 : agreeing (setRound { r with pauses := r.pauses.put c true } s) :=
      agrees_setRound h (Basic.openRound_eq_some hr).1 rfl
    have taken : agreeing (if r.pauses.isEmpty then takePause (setRound { r with pauses := r.pauses.put c true } s)
        else setRound { r with pauses := r.pauses.put c true } s) := by
      split
      · exact agrees_takePause h1
      · exact h1
    dsimp only
    split
    · exact taken
    · exact taken
    · exact h1

theorem agrees_removePause (c : PauseCause) (h : agreeing s) : agreeing (removePause c s) := by
  unfold removePause
  split
  · exact h
  · rename_i r hr
    exact agrees_resumeIfClear (agrees_setRound h (Basic.openRound_eq_some hr).1 rfl)

theorem agrees_nextPeriod (h : agreeing s) : agreeing (nextPeriod s) := by
  have go (r : Round) (hr : openRound s = some r) :
      agreeing (if r.pauses.isEmpty && !r.pauseOwed then setRound { r with timer := startedTimer s } s
        else placePauseStandby s) := by
    split
    · exact agrees_setRound h (Basic.openRound_eq_some hr).1 rfl
    · exact agrees_placePauseStandby h
  unfold nextPeriod
  split
  · rename_i r _ hr; exact go r hr
  · rename_i r _ hr; exact go r hr
  · exact h

theorem agrees_periodExpires {r : Round} (h : agreeing s) (hr : s.eqc.round = some r) :
    agreeing (periodExpires r s) := by
  unfold periodExpires
  dsimp only
  have counted (x : Round) (hx : x.string = r.string) : agreeing (match x.acct.held with
      | some sp => claimEqualise (.setPoint sp) (setRound x s)
      | none => setRound x s) := by
    split
    · exact agrees_claimEqualise (agrees_setRound h hr hx) (by simp)
    · exact agrees_setRound h hr hx
  refine counted _ ?_
  split <;> rfl

theorem agrees_actOnVerdict (v : Verdict) (h : agreeing s) (hr : s.eqc.round.isSome) : agreeing (actOnVerdict v s) := by
  match v with
  | .continue => exact agrees_nextPeriod h
  | .enterHold =>
    exact agrees_nextPeriod
      (agrees_driving (agrees_modRound h fun _ => rfl) (by simpa [modRound] using hr) (by simp) (by simp))
  | .lowEnergy => exact agrees_nextPeriod (agrees_modRound h fun _ => rfl)
  | .decided o => exact agrees_decideEqualise o h

theorem agrees_setPointAnswered (rd : Reading) (h : agreeing s) : agreeing (setPointAnswered rd s) := by
  unfold setPointAnswered
  split
  · exact h
  · rename_i r hr
    dsimp only
    split
    · exact agrees_enterDetach (agrees_setRound h hr rfl) rfl
    · exact agrees_actOnVerdict _ (agrees_setRound h hr rfl) rfl

theorem agrees_setPointFailed (h : agreeing s) : agreeing (setPointFailed s) := by
  unfold setPointFailed
  split
  · exact h
  · rename_i r hr
    have held (x : Round) (hx : x.string = r.string) : agreeing (setRound x s) := agrees_setRound h hr hx
    dsimp only
    have third (x : Round) (hx : x.string = r.string) : agreeing (if r.outcome.isSome then enterDetach (setRound x s)
        else if r.failures + 1 < 3 then nextPeriod (setRound x s)
        else decideEqualise (.aborted .boostLost) (setRound x s)) := by
      split_ifs
      · exact agrees_enterDetach (held x hx) rfl
      · exact agrees_nextPeriod (held x hx)
      · exact agrees_decideEqualise _ (held x hx)
    refine third _ ?_
    split <;> rfl

theorem agrees_attachEnded (i : StringNo) (o : TxOutcome) (h : agreeing s) : agreeing (attachEnded i o s) := by
  cases hr : s.eqc.round with
  | none =>
    have : attachEnded i o s = s := by cases o <;> simp [attachEnded, hr]
    rwa [this]
  | some r =>
    have failed : agreeing (if r.faultAtEnd then enterDetach (setRound (decideOnly (.aborted (attachFailure o)) r) s)
        else endRound false false (setRound (decideOnly (.aborted (attachFailure o)) r) s)) := by
      split
      · exact agrees_enterDetach (agrees_setRound h hr rfl) rfl
      · exact agrees_endRound _ _ (agrees_setRound h hr rfl)
    have answered : agreeing (if r.outcome.isSome then enterDetach (setAttachment (.names i true) s)
        else claimEqualise .connectStandby (setAttachment (.names i true) s)) := by
      split
      · exact agrees_enterDetach h (by simp [setAttachment, hr])
      · exact agrees_claimEqualise h (by simp)
    cases o <;> simpa only [attachEnded, hr, decideOnly] using by assumption

theorem agrees_connectStandbyEnded (o : TxOutcome) (h : agreeing s) : agreeing (connectStandbyEnded o s) := by
  unfold connectStandbyEnded
  split
  · split
    · rename_i hr; exact agrees_enterDetach h hr
    · exact h
  · rename_i r hr
    have hr := (Basic.openRound_eq_some hr).1
    dsimp only
    repeat' split
    · exact agrees_enterPaused _ (agrees_setRound h hr rfl) rfl
    · exact agrees_driving (agrees_setRound h hr rfl) rfl (by simp) (by simp)
    · exact agrees_enterPaused _ h (by simp [hr])
    · exact agrees_decideEqualise _ h

theorem agrees_pauseStandbyEnded (o : TxOutcome) (h : agreeing s) : agreeing (pauseStandbyEnded o s) := by
  unfold pauseStandbyEnded
  split
  · split
    · rename_i hr; exact agrees_enterDetach h hr
    · exact h
  · rename_i r hr
    split
    · exact agrees_enterPaused _ h (by simp [(Basic.openRound_eq_some hr).1])
    · exact agrees_placePauseStandby h

theorem agrees_refreshEnded (o : TxOutcome) (h : agreeing s) : agreeing (refreshEnded o s) := by
  unfold refreshEnded
  split
  · split
    · rename_i hr; exact agrees_enterDetach h hr
    · exact h
  · rename_i r hr
    have held (x : Round) (hx : x.string = r.string) : agreeing (setRound x s) :=
      agrees_setRound h (Basic.openRound_eq_some hr).1 hx
    dsimp only
    repeat' split
    · exact held _ rfl
    · exact agrees_removePause _ (held _ rfl)
    · exact held _ rfl
    · exact agrees_decideEqualise _ (held _ rfl)

theorem agrees_detachEnded (o : TxOutcome) (h : agreeing s) : agreeing (detachEnded o s) := by
  unfold detachEnded
  repeat' split
  · exact h
  · exact agrees_endRound _ _ h
  · exact agrees_endRound _ _ h
  · exact agrees_endRound _ _ h

theorem viewed_faultDetachEnded (o : TxOutcome) (s : State) : viewed (faultDetachEnded o s) = viewed s := by
  unfold faultDetachEnded
  split <;> rfl
end

end Sys2Proof.Laws
end

section
/-! SUPPORT. The holders over the Water Channel's updates. -/

namespace Sys2Proof.Laws

open Sys2Proof.Machine

/-! ### What the Water Channel's updates keep -/

/-- No transaction of which the Water Channel has one at a time is claimed or in flight. -/
structure HoldView.AtRest (v : HoldView) : Prop where
  claimed : ∀ k, v.claimW = some k → k.alone = false
  flying : ∀ j, v.fly = some (.water j) → j.alone = false

theorem fits_of_not_alone {v : HoldView} {b : Bool} {j : WaterJob} (h : j.alone = false) : v.fits b j := by
  cases j
  case check => trivial
  case reservoirPoll => trivial
  case dosePoll => trivial
  case faultPumpOff => trivial
  all_goals cases h

theorem fits_of_same {v w : HoldView} {b : Bool} {j : WaterJob} (h : v.fits b j) (hw : w.wac = v.wac)
    (hd : w.dose = v.dose) (hv : w.valve = v.valve) (hp : w.pump = v.pump) (hc : w.clear = v.clear) : w.fits b j := by
  have same : w.fits b j = v.fits b j := by cases j <;> simp only [HoldView.fits, hw, hd, hv, hp, hc]
  exact same ▸ h

namespace HoldView.Agrees

variable {v : HoldView}

theorem claimW (h : v.Agrees) {j : WaterJob} (hj : v.fits false j)
    (ha : j.alone = true → ∀ k, v.fly = some (.water k) → k.alone = false)
    (hp : j = .clearPumpOff → v.fly ≠ some (.safeState .pumpOff)) : { v with claimW := some j }.Agrees where
  __ := h
  claimFits k hk := fits_of_same (Option.some.inj hk ▸ hj) rfl rfl rfl rfl rfl
  flyFits k hk := fits_of_same (h.flyFits k hk) rfl rfl rfl rfl rfl
  flyAlone k l hk hl hka := by
    obtain rfl := Option.some.inj hl
    by_contra hn
    have := ha (by simpa using hn) k hk
    simp [hka] at this
  safePump hf hc := hp (Option.some.inj hc) hf

theorem withdrawW (h : v.Agrees) : { v with claimW := none }.Agrees where
  __ := h
  claimFits k hk := by cases hk
  flyFits k hk := fits_of_same (h.flyFits k hk) rfl rfl rfl rfl rfl
  flyAlone k l _ hl := by cases hl
  safePump _ := by simp

/-- At rest the Water Channel may change as its own clauses allow. -/
theorem whenAtRest (h : v.Agrees) (hr : v.AtRest) {holder : StringNo → Holder} {dose : Option (StringNo × Bool)}
    {wac : WacState} {valve : LinkRecord} {pump : PumpRecord} {clear : Bool}
    (hEq : ∀ i, holder i = .eqc ↔ v.holder i = .eqc)
    (hHeld : ∀ i b, dose = some (i, b) → holder i = .wac)
    (hHolds : ∀ i, holder i = .wac → (∃ b, dose = some (i, b)) ∨ (dose = none ∧ wac = .fault ∧ valve.holds i = true))
    (hIdle : wac = .idle → pump = .off)
    (hDose : ∀ i b, dose = some (i, b) →
      wac ≠ .idle ∧ wac ≠ .fault ∧ (pump = .off ∨ b = true ∧ valve.holds i = true))
    (hRel : Release.on v.release → valve = .empty ∧ pump = .off ∧ dose = none) :
    { v with
      holder := holder, dose := dose, wac := wac, valve := valve, pump := pump, clear := clear }.Agrees where
  __ := h
  eqHolder i := (hEq i).trans (h.eqHolder i)
  doseHeld := hHeld
  waHolder := hHolds
  idlePump := hIdle
  doseState := hDose
  claimFits j hj := fits_of_not_alone (hr.claimed j hj)
  flyFits j hj := fits_of_not_alone (hr.flying j hj)
  released := hRel

/-- The clauses of a state that only moves on with its dose. -/
theorem moving (h : v.Agrees) (hr : v.AtRest) (hd : v.dose ≠ none) (x : WacState) (hi : x ≠ .idle) (hf : x ≠ .fault) :
    { v with wac := x }.Agrees :=
  h.whenAtRest hr (fun _ => Iff.rfl) h.doseHeld
    (fun i hw => (h.waHolder i hw).imp_right fun hn => absurd hn.1 hd) (fun hx => absurd hx hi)
    (fun i b hb => ⟨hi, hf, (h.doseState i b hb).2.2⟩) h.released

theorem atRest_of_idle (h : v.Agrees) (hi : v.wac = .idle) : v.AtRest where
  claimed k hk := by
    have := h.claimFits k hk
    cases k <;> simp_all [HoldView.fits, WaterJob.alone]
  flying j hj := by
    have := h.flyFits j hj
    cases j <;> simp_all [HoldView.fits, WaterJob.alone]

/-- In IDLE the channel has no dose and holds no string. -/
theorem idle_holdsNone (h : v.Agrees) (hi : v.wac = .idle) : v.dose = none ∧ ∀ i, v.holder i ≠ .wac := by
  have hd : v.dose = none := by
    cases hd : v.dose with
    | none => rfl
    | some x => exact absurd hi (h.doseState x.1 x.2 hd).1
  refine ⟨hd, fun i hw => ?_⟩
  obtain ⟨b, hb⟩ | ⟨-, hf, -⟩ := h.waHolder i hw
  · simp [hd] at hb
  · simp [hi] at hf

theorem holder_dose (h : v.Agrees) {i : StringNo} {b : Bool} (hd : v.dose = some (i, b)) {j : StringNo}
    (hj : v.holder j = .wac) : j = i := by
  obtain ⟨c, hc⟩ | ⟨hn, -⟩ := h.waHolder j hj
  · simp_all
  · simp [hd] at hn

theorem notReleased (h : v.Agrees) {x : StringNo × Bool} (hd : v.dose = some x) : ¬ Release.on v.release := by
  intro hon
  simp [(h.released hon).2.2] at hd

end HoldView.Agrees

section
variable {s : State}

theorem viewed_dose {d : Dose} (h : s.wac.dose = some d) : (viewed s).dose = some (d.string, d.pumpOnSent) := by
  simp [viewed, viewOf, h]

theorem viewed_setDose_same {d d' : Dose} (hd : s.wac.dose = some d) (hs : d'.string = d.string)
    (hp : d'.pumpOnSent = d.pumpOnSent) : viewed (setDose d' s) = viewed s := by
  rw [viewed_setDose, hs, hp, ← viewed_dose hd]

theorem viewed_modDose {f : Dose → Dose} (hf : ∀ d, (f d).string = d.string ∧ (f d).pumpOnSent = d.pumpOnSent) :
    viewed (modDose f s) = viewed s := by
  simp only [viewed, viewOf, modDose, modWac, Option.map_map]
  congr 1
  cases s.wac.dose <;> simp [hf]

theorem agrees_setDose {d d' : Dose} (h : agreeing s) (hd : s.wac.dose = some d) (hs : d'.string = d.string)
    (hp : d'.pumpOnSent = d.pumpOnSent) : agreeing (setDose d' s) :=
  agreeing_of_viewed h (viewed_setDose_same hd hs hp)

theorem agrees_withdrawWater (h : agreeing s) : agreeing (withdrawWater s) := h.withdrawW

/-- A claim that the channel may have beside another. -/
theorem agrees_claimWater_beside {j : WaterJob} (h : agreeing s) (hj : j.alone = false) : agreeing (claimWater j s) :=
  h.claimW (fits_of_not_alone hj) (by simp [hj]) (by rintro rfl; cases hj)

theorem agrees_claimWater_rest {j : WaterJob} (h : agreeing s) (hj : (viewed s).fits false j)
    (hf : ∀ k, (viewed s).fly = some (.water k) → k.alone = false) (hn : j ≠ .clearPumpOff) :
    agreeing (claimWater j s) :=
  h.claimW hj (fun _ => hf) fun he => absurd he hn

/-! ### The Water Channel (Machine/Water.lean) -/

theorem viewed_enterWacIdle (s : State) : viewed (enterWacIdle s) = { viewed s with wac := .idle } := rfl

/-- FAULT is entered as the state alone would be: a check or a poll withdrawn takes no claim that matters. -/
theorem agrees_enterWacFault (h : { viewed s with wac := .fault }.Agrees) : agreeing (enterWacFault s) := by
  unfold enterWacFault
  dsimp only
  split
  · exact h.withdrawW
  · exact h.withdrawW
  · exact h

theorem viewed_judgeReservoir (n : Nat) (s : State) : viewed (judgeReservoir n s) = viewed s := by
  simp only [viewed, viewOf, judgeReservoir, modWac]
  split <;> rfl

theorem viewed_setReservoirLow (s : State) : viewed (setReservoirLow s) = viewed s := by
  simp only [viewed, viewOf, setReservoirLow, modWac]
  split <;> rfl
end

end Sys2Proof.Laws
end

section
/-! SUPPORT. The holders over the end of a dose. -/

namespace Sys2Proof.Laws

open Sys2Proof.Machine

/-! ### The end of a dose (R110 to R114) -/

namespace HoldView.Agrees

variable {v : HoldView}

/-- The dose ends and its string is released. -/
theorem doseEnds (h : v.Agrees) (hr : v.AtRest) {i : StringNo} {b : Bool} (hd : v.dose = some (i, b)) {x : WacState}
    (hx : x = .idle → v.pump = .off) :
    { v with holder := Function.update v.holder i .none, dose := none, wac := x }.Agrees := by
  have held := h.doseHeld i b hd
  refine h.whenAtRest hr (fun j => ?_) (by simp) (fun j hj => ?_) hx (by simp)
    (fun hon => absurd hon (h.notReleased hd))
  · by_cases hj : j = i
    · subst hj; simp [held]
    · simp [hj]
  · by_cases hij : j = i
    · subst hij; simp at hj
    · rw [Function.update_of_ne hij] at hj
      exact absurd (h.holder_dose hd hj) hij

/-- After a failed PUMP OFF the channel keeps its string in FAULT, with the valve that names it (R112). -/
theorem doseKeeps (h : v.Agrees) (hr : v.AtRest) {i : StringNo} {b : Bool} (hd : v.dose = some (i, b))
    (hv : v.valve.holds i = true) : { v with dose := none, wac := .fault }.Agrees := by
  refine h.whenAtRest hr (fun j => Iff.rfl) (by simp) (fun j hj => .inr ⟨rfl, rfl, ?_⟩) (by simp) (by simp)
    (fun hon => absurd hon (h.notReleased hd))
  rw [h.holder_dose hd hj]
  exact hv

end HoldView.Agrees

section
variable {s : State}

/-- The dose over, before the channel's next state. -/
theorem agrees_handOnDose {d : Dose} (o : WaterOutcome) {l : Leave} {b : Bool} (h : agreeing s)
    (hr : (viewed s).AtRest) (hd : s.wac.dose = some d) (hp : b = false → s.wac.pump = .off)
    (hk : l = .kept → b = true ∧ s.wac.valve.holds d.string = true) : agreeing (handOnDose d o l b s) := by
  have gone (u : State) : viewed (modWac (fun w => { w with dose := none }) u) = { viewed u with dose := none } := rfl
  have hd := viewed_dose hd
  unfold handOnDose
  cases b with
  | true =>
    refine agrees_enterWacFault ?_
    cases l with
    | kept =>
      simp only [gone, viewed_raise, viewed_logWrite, viewed_takeWaterOutcome]
      exact h.doseKeeps hr hd (hk rfl).2
    | released =>
      simp only [gone, viewed_raise, viewed_logWrite, viewed_takeWaterOutcome, viewed_releaseString]
      exact h.doseEnds hr hd (by simp)
    | closeFailed =>
      simp only [gone, viewed_raise, viewed_logWrite, viewed_takeWaterOutcome, viewed_releaseString]
      exact h.doseEnds hr hd (by simp)
  | false =>
    have hl : l ≠ .kept := fun he => by simpa using (hk he).1
    rw [agreeing, if_neg (by simp), viewed_enterWacIdle]
    cases l with
    | kept => exact absurd rfl hl
    | released =>
      simp only [gone, viewed_raise, viewed_logWrite, viewed_takeWaterOutcome, viewed_releaseString]
      exact h.doseEnds hr hd fun _ => hp rfl
    | closeFailed =>
      simp only [gone, viewed_raise, viewed_logWrite, viewed_takeWaterOutcome, viewed_releaseString]
      exact h.doseEnds hr hd fun _ => hp rfl

theorem agrees_endDose {l : Leave} {b : Bool} (h : agreeing s) (hr : (viewed s).AtRest)
    (hp : b = false → s.wac.pump = .off)
    (hk : l = .kept → b = true ∧ ∀ d, s.wac.dose = some d → s.wac.valve.holds d.string = true) :
    agreeing (endDose l b s) := by
  unfold endDose
  split
  · rename_i d o hdo
    have hd : s.wac.dose = some d := by
      unfold decidedDose at hdo
      cases hd : s.wac.dose <;> simp_all
    exact agrees_handOnDose o h hr hd hp fun he => ⟨(hk he).1, (hk he).2 d hd⟩
  · exact h

/-- CLOSE, or the end of the round, with the pump off (R111). -/
theorem agrees_closeStep {d : Dose} (h : agreeing s) (hr : (viewed s).AtRest) (hd : s.wac.dose.isSome)
    (hp : s.wac.pump = .off) : agreeing (closeStep d s) := by
  obtain ⟨x, hx⟩ := Option.isSome_iff_exists.mp hd
  unfold closeStep
  split
  · refine agrees_claimWater_rest (s := setWacState .close s) ?_ ⟨rfl, hp⟩ hr.flying (by simp)
    exact h.moving hr (by simp [viewed_dose hx]) .close (by simp) (by simp)
  · exact agrees_endDose h hr (fun _ => hp) (by simp)

/-- The end sequence, begun with none of the channel's own transactions in flight (R111). -/
theorem agrees_endSequence (h : agreeing s) (hf : ∀ j, (viewed s).fly = some (.water j) → j.alone = false) :
    agreeing (endSequence s) := by
  unfold endSequence
  split
  · exact h
  · rename_i d hd
    let x : Dose := { d with pollTimer := none, maxReached := false }
    have h1 : agreeing (withdrawWater (setDose x s)) := agrees_withdrawWater (agrees_setDose h hd rfl rfl)
    have hr : (viewed (withdrawWater (setDose x s))).AtRest := ⟨by simp, hf⟩
    dsimp only
    split
    · refine agrees_claimWater_rest (s := setWacState .stop _) ?_ rfl hf (by simp)
      exact h1.moving hr (by simp) .stop (by simp) (by simp)
    · rename_i hsent
      refine agrees_closeStep h1 hr rfl ?_
      have hpump := (h.doseState _ _ (viewed_dose hd)).2.2
      exact hpump.resolve_right fun hb => hsent (by simp [hb.1])

theorem waterInFlight_isSome_iff : (waterInFlight s).isSome ↔ ∃ j, (viewed s).fly = some (.water j) := by
  unfold waterInFlight
  simp only [viewed, viewOf, claimantOf]
  cases s.loop.inFlight with
  | none => simp
  | some x =>
    cases x with
    | transaction t => cases ht : t.claimant <;> simp [ht]
    | poll _ => simp
    | raw _ => simp

theorem agrees_stopDosing (h : agreeing s) : agreeing (stopDosing s) := by
  unfold stopDosing
  split
  · exact agreeing_of_viewed h (viewed_modDose fun _ => ⟨rfl, rfl⟩)
  · rename_i hn
    rw [waterInFlight_isSome_iff] at hn
    exact agrees_endSequence h fun j hj => absurd ⟨j, hj⟩ hn

theorem agrees_decideWater (o : WaterOutcome) (h : agreeing s) : agreeing (decideWater o s) := by
  unfold decideWater
  split
  · rename_i d hd
    exact agrees_stopDosing (agrees_setDose h (Basic.openDose_eq_some hd).1 rfl rfl)
  · exact h

/-- A channel in IDLE may go to FAULT. -/
theorem agrees_enterWacFault_of_idle (h : agreeing s) (hi : s.wac.state = .idle) : agreeing (enterWacFault s) := by
  obtain ⟨hd, hh⟩ := h.idle_holdsNone hi
  exact agrees_enterWacFault (h.whenAtRest (h.atRest_of_idle hi) (fun _ => Iff.rfl) (by simp [hd])
    (fun i hw => absurd hw (hh i)) (by simp) (by simp [hd]) h.released)

theorem agrees_flowLeak (h : agreeing s) : agreeing (flowLeak s) := by
  unfold flowLeak
  split
  · rename_i hi
    exact agrees_claimWater_beside (agrees_enterWacFault_of_idle h hi) rfl
  · exact h
  · exact agrees_decideWater _ (agreeing_of_viewed h (viewed_modDose fun _ => ⟨rfl, rfl⟩))

/-! ### What the channel's own transactions bring (R105 to R108, R112, R113) -/

/-- A transaction of the Water Channel that has just left the loop: what its flight has kept stands. -/
structure Landed (j : WaterJob) (s : State) : Prop where
  fits : (viewed s).fits true j
  claims : j.alone = true → ∀ k, (viewed s).claimW = some k → k.alone = false
  none : (viewed s).fly = none

theorem Landed.atRest {j : WaterJob} (hl : Landed j s) (hj : j.alone = true) : (viewed s).AtRest :=
  ⟨hl.claims hj, by simp [hl.none]⟩

theorem Landed.free {j : WaterJob} (hl : Landed j s) : ∀ k, (viewed s).fly = some (.water k) → k.alone = false := by
  simp [hl.none]

theorem agrees_openValveEnded {i : StringNo} (o : TxOutcome) (h : agreeing s) (hl : Landed (.openValve i) s) :
    agreeing (openValveEnded i o s) := by
  cases hd : s.wac.dose with
  | none =>
    have : openValveEnded i o s = s := by cases o <;> simp [openValveEnded, hd]
    rwa [this]
  | some d =>
    obtain ⟨-, b, hb⟩ := hl.fits
    have hdv := viewed_dose hd
    have hi : d.string = i := by simp_all
    have hrest := hl.atRest rfl
    have opened (x : WacState) (hx : x ≠ .idle) (hf : x ≠ .fault) :
        { viewed s with wac := x, valve := .names i true }.Agrees := by
      refine h.whenAtRest hrest (fun _ => Iff.rfl) h.doseHeld (fun j hj => ?_) (fun he => absurd he hx) (fun j c hc => ?_)
        (fun hon => absurd hon (h.notReleased hdv))
      · exact .inl ⟨_, by rw [h.holder_dose hdv hj]; exact hdv⟩
      · have hji : j = i := by simp_all
        exact ⟨hx, hf, (h.doseState j c hc).2.2.imp_right fun hp => ⟨hp.1, by simp [LinkRecord.holds, hji]⟩⟩
    have failed (c : WaterOutcome) : agreeing (endSequence (setDose { d with outcome := some c } s)) :=
      agrees_endSequence (agrees_setDose h hd rfl rfl) hl.free
    have answered : agreeing (if d.outcome.isSome then endSequence (setValve (.names i true) s)
        else claimWater .pumpOn (setWacState .pump (setValve (.names i true) s))) := by
      split
      · refine agrees_endSequence (s := setValve _ s) ?_ hl.free
        exact opened _ (h.doseState _ _ hdv).1 (h.doseState _ _ hdv).2.1
      · refine agrees_claimWater_rest (s := setWacState .pump _) (opened .pump (by simp) (by simp)) ?_ hl.free (by simp)
        exact ⟨rfl, d.string, d.pumpOnSent, hdv, by simp [LinkRecord.holds, hi], by simp⟩
    cases o with
    | answer data => simpa only [openValveEnded, hd] using answered
    | _ => simpa only [openValveEnded, hd] using failed _

theorem agrees_pumpOnEnded (o : TxOutcome) (h : agreeing s) (hl : Landed .pumpOn s) : agreeing (pumpOnEnded o s) := by
  cases hd : s.wac.dose with
  | none =>
    have : pumpOnEnded o s = s := by cases o <;> simp [pumpOnEnded, hd]
    rwa [this]
  | some d =>
    obtain ⟨hstate, i, b, hb, hv, hs⟩ := hl.fits
    have hdv := viewed_dose hd
    have running (x : WacState) (hx : x ≠ .idle) (hf : x ≠ .fault) :
        { viewed s with wac := x, pump := .onConfirmed }.Agrees := by
      refine h.whenAtRest (hl.atRest rfl) (fun _ => Iff.rfl) h.doseHeld (fun j hj => ?_) (fun he => absurd he hx)
        (fun j c hc => ⟨hx, hf, .inr ?_⟩) (fun hon => absurd hon (h.notReleased hdv))
      · exact .inl ⟨_, by rw [h.holder_dose hdv hj]; exact hdv⟩
      · obtain ⟨rfl, rfl⟩ : i = j ∧ b = c := by simp_all
        exact ⟨hs rfl, hv⟩
    have failed (c : WaterOutcome) : agreeing (endSequence (setDose { d with outcome := some c } s)) :=
      agrees_endSequence (agrees_setDose h hd rfl rfl) hl.free
    cases o with
    | answer data =>
      simp only [pumpOnEnded, hd]
      split
      · refine agrees_endSequence (s := setPump _ s) ?_ hl.free
        exact running _ (h.doseState _ _ hdv).1 (h.doseState _ _ hdv).2.1
      · exact agreeing_of_viewed (s := setWacState .dose (setPump .onConfirmed s)) (running .dose (by simp) (by simp))
          (viewed_setDose_same (s := setWacState .dose (setPump .onConfirmed s)) hd rfl rfl)
    | _ => simpa only [pumpOnEnded, hd] using failed _
end

end Sys2Proof.Laws
end

section
/-! SUPPORT. The holders over pump, valve, bars and clears. -/

namespace Sys2Proof.Laws

open Sys2Proof.Machine

/-! ### Pump and valve records (R103, R112, R113, R115) -/

namespace HoldView.Agrees

variable {v : HoldView}

theorem pumpOff (h : v.Agrees) : { v with pump := .off }.Agrees := by
  have off {b : Bool} {j : WaterJob} (hj : v.fits b j) : { v with pump := .off }.fits b j := by
    cases j <;> simp_all [HoldView.fits]
  exact { h with
    idlePump := fun _ => rfl
    doseState := fun i b hd => ⟨(h.doseState i b hd).1, (h.doseState i b hd).2.1, .inl rfl⟩
    claimFits := fun j hj => off (h.claimFits j hj)
    flyFits := fun j hj => off (h.flyFits j hj)
    released := fun hon => ⟨(h.released hon).1, rfl, (h.released hon).2.2⟩ }

/-- A pump that may run is recorded on, confirmed or not. -/
theorem pumpOn (h : v.Agrees) (hp : v.pump ≠ .off) (x : PumpRecord) : { v with pump := x }.Agrees := by
  have on {b : Bool} {j : WaterJob} (hj : v.fits b j) : { v with pump := x }.fits b j := by
    cases j <;> simp_all [HoldView.fits]
  exact { h with
    idlePump := fun hi => absurd (h.idlePump hi) hp
    doseState := fun i b hd =>
      ⟨(h.doseState i b hd).1, (h.doseState i b hd).2.1, .inr ((h.doseState i b hd).2.2.resolve_left hp)⟩
    claimFits := fun j hj => on (h.claimFits j hj)
    flyFits := fun j hj => on (h.flyFits j hj)
    released := fun hon => absurd (h.released hon).2.1 hp }

/-- With the pump off and a dose, the valve record does not matter. -/
theorem valveOf (h : v.Agrees) (hr : v.AtRest) {x : StringNo × Bool} (hd : v.dose = some x) (hp : v.pump = .off)
    (l : LinkRecord) : { v with valve := l }.Agrees :=
  h.whenAtRest hr (fun _ => Iff.rfl) h.doseHeld
    (fun i hw => .inl ⟨x.2, by rw [h.holder_dose (i := x.1) (b := x.2) hd hw]; exact hd⟩) h.idlePump
    (fun i b hb => ⟨(h.doseState i b hb).1, (h.doseState i b hb).2.1, .inl hp⟩)
    (fun hon => absurd hon (h.notReleased hd))

end HoldView.Agrees

section
variable {s : State}

theorem agrees_setPump_off (h : agreeing s) : agreeing (setPump .off s) := h.pumpOff

theorem agrees_setPump_on (x : PumpRecord) (h : agreeing s) (hp : s.wac.pump ≠ .off) : agreeing (setPump x s) :=
  h.pumpOn hp x

theorem takeDelivered_same (data : List Octet) (d : Dose) :
    (takeDelivered data d).string = d.string ∧ (takeDelivered data d).pumpOnSent = d.pumpOnSent := by
  unfold takeDelivered
  dsimp only
  split <;> exact ⟨rfl, rfl⟩

theorem agrees_dosePollEnded (o : TxOutcome) (h : agreeing s) (hl : Landed .dosePoll s) :
    agreeing (dosePollEnded o s) := by
  cases hd : s.wac.dose with
  | none =>
    have : dosePollEnded o s = s := by simp [dosePollEnded, hd]
    rwa [this]
  | some d =>
    cases o with
    | answer data =>
      have same := viewed_judgeReservoir (reservoirOf data) s
      have held {x : Dose} (hs : x.string = d.string) (hp : x.pumpOnSent = d.pumpOnSent) :
          agreeing (setDose x (judgeReservoir (reservoirOf data) s)) :=
        agrees_setDose (agreeing_of_viewed h same) (by simpa using hd) hs hp
      obtain ⟨hs, hp⟩ := takeDelivered_same data d
      simp only [dosePollEnded, hd]
      split
      · exact agrees_endSequence (held hs hp) (by simpa [same] using hl.free)
      · split
        · exact agrees_decideWater _ (held hs hp)
        · exact held hs hp
    | _ =>
      simp only [dosePollEnded, hd]
      split
      · exact agrees_endSequence (agrees_setDose h hd rfl rfl) hl.free
      · exact agrees_setDose h hd rfl rfl

theorem agrees_pumpOffEnded (o : TxOutcome) (h : agreeing s) (hl : Landed .pumpOff s) :
    agreeing (pumpOffEnded o s) := by
  have hr := hl.atRest rfl
  unfold pumpOffEnded
  split
  · exact h
  · rename_i d hd
    split
    · exact agrees_closeStep (agrees_setPump_off h) ⟨hr.claimed, hr.flying⟩ (by simp [setPump, hd]) rfl
    · split
      · rename_i hp
        exact agrees_closeStep (agrees_setDose h hd rfl rfl) ⟨hr.claimed, hr.flying⟩ rfl hp
      · rename_i hp
        refine agrees_endDose (agrees_setPump_on _ h hp) ⟨hr.claimed, hr.flying⟩ (by simp) fun _ => ⟨rfl, fun x hx => ?_⟩
        obtain rfl : d = x := Option.some.inj (hd.symm.trans hx)
        exact ((h.doseState _ _ (viewed_dose hd)).2.2.resolve_left hp).2

theorem agrees_closeValveEnded {i : StringNo} (o : TxOutcome) (h : agreeing s) (hl : Landed (.closeValve i) s) :
    agreeing (closeValveEnded o s) := by
  have hr := hl.atRest rfl
  obtain ⟨-, hp⟩ := hl.fits
  unfold closeValveEnded
  split
  · exact h
  · rename_i d hd
    have valve (l : LinkRecord) : agreeing (setValve l s) := h.valveOf hr (viewed_dose hd) hp l
    split
    · exact agrees_endDose (valve _) ⟨hr.claimed, hr.flying⟩ (fun _ => hp) (by simp)
    · exact agrees_endDose (valve _) ⟨hr.claimed, hr.flying⟩ (by simp) (by simp)

theorem agrees_reservoirPollEnded (o : TxOutcome) (h : agreeing s) : agreeing (reservoirPollEnded o s) := by
  have timer (u : State) : viewed (modWac (fun w =>
      if w.state = .idle ∧ w.reservoirLow then { w with pollTimer := some 0 } else w) u) = viewed u := by
    simp only [viewed, viewOf, modWac]
    split <;> rfl
  unfold reservoirPollEnded
  refine agreeing_of_viewed h ((timer _).trans ?_)
  split
  · exact viewed_judgeReservoir _ s
  · rfl

theorem agrees_faultPumpOffEnded (o : TxOutcome) (h : agreeing s) : agreeing (faultPumpOffEnded o s) := by
  unfold faultPumpOffEnded
  split
  · exact agrees_setPump_off h
  · split
    · exact h
    · rename_i hp
      exact agrees_setPump_on _ h hp

/-! ### Bars (R12 to R14) -/

theorem viewed_setStringState_same {i : StringNo} {x : StringState} (hx : x.holder = (recordOf s i).state.holder) :
    viewed (setStringState i x s) = viewed s := by
  have : Function.update (viewed s).holder i x.holder = (viewed s).holder := by
    rw [hx]
    exact Function.update_eq_self i (viewed s).holder
  rw [viewed_setStringState, this]

theorem agrees_bar (i : StringNo) (c : BarCause) (h : agreeing s) : agreeing (bar i c s) := by
  unfold bar
  split
  · exact h
  · split
    · rename_i hst
      exact agreeing_of_viewed h ((viewed_removeBarred _ _).trans (viewed_setStringState_same (by rw [hst]; rfl)))
    · rename_i hst
      exact agreeing_of_viewed h ((viewed_removeBarred _ _).trans (viewed_setStringState_same (by rw [hst]; rfl)))
    · rename_i b hst
      have h1 : agreeing (removeBarred i (setStringState i (.equalise (some (joinBar b c))) s)) :=
        agreeing_of_viewed h ((viewed_removeBarred _ _).trans (viewed_setStringState_same (by rw [hst]; rfl)))
      unfold barEqualised
      dsimp only
      split
      · exact agrees_decideEqualise _ h1
      · exact h1
    · rename_i b hst
      have h1 : agreeing (removeBarred i (setStringState i (.water (some (joinBar b c))) s)) :=
        agreeing_of_viewed h ((viewed_removeBarred _ _).trans (viewed_setStringState_same (by rw [hst]; rfl)))
      unfold barWatered
      dsimp only
      split
      · exact agrees_decideWater _ h1
      · exact h1
    · rename_i hst
      exact agreeing_of_viewed h (viewed_setStringState_same (by rw [hst]; rfl))

/-! ### The clears (R80, R118) -/

theorem agrees_clearDetachEnded (o : TxOutcome) (h : agreeing s) (he : s.eqc.state = .fault)
    (hc : s.loop.claimEqualise ≠ some .clearDetach) (hf : (viewed s).fly = none) : agreeing (clearDetachEnded o s) := by
  unfold clearDetachEnded
  dsimp only
  split
  · exact h.cleared he hc (by simp [hf])
  · split
    · exact agrees_bar _ _ h
    · exact h

/-- A clear that failed: the channel stays in FAULT, its clear outstanding no more. -/
theorem agrees_waterClearFails (h : agreeing s) (hr : (viewed s).AtRest) : agreeing (waterClearFails s) :=
  h.whenAtRest hr (fun _ => Iff.rfl) h.doseHeld h.waHolder h.idlePump h.doseState h.released

theorem agrees_waterClearDone (h : agreeing s) (hr : (viewed s).AtRest) (hd : (viewed s).dose = none)
    (hh : ∀ i, (viewed s).holder i ≠ .wac) (hp : s.wac.pump = .off) : agreeing (waterClearDone s) :=
  h.whenAtRest hr (fun _ => Iff.rfl) h.doseHeld (fun i hw => absurd hw (hh i)) (fun _ => hp)
    (fun i b hb => absurd (hd.symm.trans hb) (by simp)) h.released

/-- In FAULT the channel has no dose, and holds at most the string of its valve record. -/
theorem fault_holdsValve (h : agreeing s) (hf : s.wac.state = .fault) :
    (viewed s).dose = none ∧ ∀ i, (viewed s).holder i = .wac → s.wac.valve.holds i = true := by
  have hd : (viewed s).dose = none := by
    cases hd : (viewed s).dose with
    | none => rfl
    | some x => exact absurd hf (h.doseState x.1 x.2 hd).2.1
  refine ⟨hd, fun i hw => ?_⟩
  obtain ⟨b, hb⟩ | ⟨-, -, hv⟩ := h.waHolder i hw
  · simp [hd] at hb
  · exact hv

theorem agrees_clearPumpOffEnded (o : TxOutcome) (h : agreeing s) (hr : (viewed s).AtRest)
    (hf : s.wac.state = .fault) (hc : s.wac.clear = true) : agreeing (clearPumpOffEnded o s) := by
  obtain ⟨hd, hh⟩ := fault_holdsValve h hf
  unfold clearPumpOffEnded
  split
  · have h1 := agrees_setPump_off h
    dsimp only
    split
    · rename_i i _ hv
      refine agrees_claimWater_rest h1 ⟨hf, hc, rfl, ?_⟩ hr.flying (by simp)
      change (setPump .off s).wac.valve.holds i = true
      rw [hv]
      simp [LinkRecord.holds]
    · rename_i hv
      refine agrees_waterClearDone h1 ⟨hr.claimed, hr.flying⟩ hd (fun i hw => ?_) rfl
      have := hh i hw
      rw [show s.wac.valve = .empty from hv] at this
      cases this
  · refine agrees_waterClearFails ?_ ?_
    · split
      · exact h
      · rename_i hp
        exact agrees_setPump_on _ h hp
    · split
      · exact hr
      · exact ⟨hr.claimed, hr.flying⟩

theorem holds_unique {l : LinkRecord} {i j : StringNo} (hi : l.holds i = true) (hj : l.holds j = true) : i = j := by
  cases l <;> simp_all [LinkRecord.holds]

theorem stopDriving_claimWater (s : State) : (stopDriving s).loop.claimWater = s.loop.claimWater := by
  unfold stopDriving
  repeat' split
  all_goals simp [enterDetach, claimEqualise, withdrawEqualise]

/-- A bar on a string the Water Channel does not hold leaves the channel's claim. -/
theorem bar_claimWater (i : StringNo) (c : BarCause) (s : State) (hw : (recordOf s i).state.holder ≠ .wac) :
    (bar i c s).loop.claimWater = s.loop.claimWater := by
  unfold bar
  split
  · rfl
  · split
    · simp
    · simp
    · unfold barEqualised decideEqualise
      dsimp only
      repeat' split
      all_goals simp [stopDriving_claimWater]
    · rename_i hst
      exact absurd (by rw [hst]; rfl) hw
    · simp

theorem agrees_clearCloseEnded {i : StringNo} (o : TxOutcome) (h : agreeing s) (hl : Landed (.clearClose i) s) :
    agreeing (clearCloseEnded i o s) := by
  have hr := hl.atRest rfl
  obtain ⟨hf, hc, hp, hv⟩ := hl.fits
  obtain ⟨hd, hh⟩ := fault_holdsValve h hf
  have only {j : StringNo} (hj : (viewed s).holder j = .wac) : j = i := holds_unique (hh j hj) hv
  have noDose {p : StringNo → Bool → Prop} : ∀ j b, (viewed s).dose = some (j, b) → p j b :=
    fun j b hb => absurd (hd.symm.trans hb) (by simp)
  have notEq (hw : (viewed s).holder i = .wac) (j : StringNo) :
      Function.update (viewed s).holder i .none j = .eqc ↔ (viewed s).holder j = .eqc := by
    by_cases hj : j = i
    · subst hj; simp [hw]
    · simp [hj]
  have left (j : StringNo) : Function.update (viewed s).holder i .none j ≠ .wac := by
    by_cases hj : j = i
    · subst hj; simp
    · rw [Function.update_of_ne hj]
      exact fun hw => hj (only hw)
  by_cases hw : (recordOf s i).state.holder = .wac
  · have hw' : (viewed s).holder i = .wac := hw
    cases o with
    | answer data =>
      simp only [clearCloseEnded, if_pos hw]
      have : viewed (waterClearDone (releaseString i none none (setValve .empty s))) =
          { viewed s with
            holder := Function.update (viewed s).holder i .none, wac := .idle, valve := .empty, clear := false } := by
        change { viewed (releaseString i none none (setValve .empty s)) with wac := .idle, clear := false } = _
        rw [viewed_releaseString]
        rfl
      rw [agreeing, this]
      exact h.whenAtRest hr (notEq hw') noDose (fun j hj => absurd hj (left j)) (fun _ => hp) noDose
        fun hon => ⟨rfl, hp, hd⟩
    | _ =>
      simp only [clearCloseEnded, if_pos hw]
      have : viewed (waterClearFails (releaseString i (some .closeFailed) none (setValve s.wac.valve.unconfirm s))) =
          { viewed s with
            holder := Function.update (viewed s).holder i .none
            valve := s.wac.valve.unconfirm, clear := false } := by
        change { viewed (releaseString i _ none (setValve s.wac.valve.unconfirm s)) with clear := false } = _
        rw [viewed_releaseString]
        rfl
      rw [agreeing, this]
      exact h.whenAtRest hr (notEq hw') noDose (fun j hj => absurd hj (left j)) h.idlePump noDose
        fun hon => ⟨by rw [show s.wac.valve = .empty from (h.released hon).1]; rfl, hp, hd⟩
  · have none (j : StringNo) : (viewed s).holder j ≠ .wac := fun hj => hw (only hj ▸ hj)
    cases o with
    | answer data =>
      simp only [clearCloseEnded, if_neg hw]
      exact h.whenAtRest hr (fun _ => Iff.rfl) noDose (fun j hj => absurd hj (none j)) (fun _ => hp) noDose
        fun hon => ⟨rfl, hp, hd⟩
    | _ =>
      simp only [clearCloseEnded, if_neg hw]
      have h1 : agreeing (setValve s.wac.valve.unconfirm s) :=
        h.whenAtRest hr (fun _ => Iff.rfl) noDose (fun j hj => absurd hj (none j)) h.idlePump noDose
          fun hon => ⟨by rw [show s.wac.valve = .empty from (h.released hon).1]; rfl, hp, hd⟩
      refine agrees_waterClearFails (agrees_bar _ _ h1) ?_
      have claims := bar_claimWater i .closeFailed (setValve s.wac.valve.unconfirm s) hw
      exact ⟨fun k hk => hr.claimed k (claims.symm.trans hk), fun j hj => hr.flying j (by
        simpa [viewed, viewOf] using hj)⟩

/-! ### Dispatch (R53 to R56) -/

theorem agrees_beginRound {e : QueueEntry} {rn : Fin 4} (h : agreeing s) (hs : (recordOf s e.string).state = .float)
    (he : s.eqc.state = .idle) : agreeing (beginRound e rn s) := by
  have hi : (viewed s).holder e.string = .none := by
    change (recordOf s e.string).state.holder = .none
    rw [hs]
    rfl
  have begun := h.roundBegins hi he
  let u0 := setStringState e.string (.equalise none) (dropEntry .equalise e.string s)
  let u := setEqcState .connect (setRound (freshRound e rn (drawNumber u0).2 (drawNumber u0).1) (drawNumber u0).1)
  have hu : agreeing u := by
    refine agreeing_of_viewed (s := u) ?_ rfl
    have : viewed u = { viewed s with
        holder := Function.update (viewed s).holder e.string .eqc, round := some e.string, eqc := .connect } := by
      have h0 : viewed u0 = _ := viewed_setStringState (dropEntry .equalise e.string s) e.string (.equalise none)
      change { viewed u0 with round := some e.string, eqc := .connect } = _
      rw [h0]
      rfl
    rw [agreeing, this]
    exact begun
  change agreeing (if u.plant.discharge then
      endRound false false (modRound (fun r => { r with outcome := some (.aborted .discharge) }) u)
    else claimEqualise (.attach e.string) u)
  split
  · exact agrees_endRound _ _ (agrees_modRound hu fun _ => rfl)
  · exact agrees_claimEqualise hu (by simp)
end

end Sys2Proof.Laws
end

section
/-! SUPPORT. The holders over dispatch. -/

namespace Sys2Proof.Laws

open Sys2Proof.Machine

section
variable {s : State}

/-- A dose begins on a string nobody holds, from IDLE in a free loop (R56, R102). -/
theorem agrees_beginDose {e : QueueEntry} {n : Nat} (h : agreeing s) (hs : (recordOf s e.string).state = .float)
    (hw : s.wac.state = .idle) (hl : s.loop.release = .free) : agreeing (beginDose e n s) := by
  have hi : (viewed s).holder e.string = .none := by
    change (recordOf s e.string).state.holder = .none
    rw [hs]
    rfl
  obtain ⟨-, hh⟩ := h.idle_holdsNone hw
  have hr := h.atRest_of_idle hw
  have hp : s.wac.pump = .off := h.idlePump hw
  let u0 := setStringState e.string (.water none) (dropEntry .water e.string s)
  let u := modWac (fun w => { w with state := .open, pollTimer := none, check := none })
    (setDose (freshDose e n (drawNumber u0).2 (drawNumber u0).1) (drawNumber u0).1)
  have hv : viewed u = { viewed s with
      holder := Function.update (viewed s).holder e.string .wac, dose := some (e.string, false), wac := .open } := by
    have h0 : viewed u0 = _ := viewed_setStringState (dropEntry .water e.string s) e.string (.water none)
    change { viewed u0 with dose := some (e.string, false), wac := .open } = _
    rw [h0]
    rfl
  have hu : agreeing u := by
    rw [agreeing, hv]
    refine h.whenAtRest hr (fun j => ?_) (fun j b hb => ?_) (fun j hj => .inl ⟨false, ?_⟩) (by simp)
      (fun j b hb => ⟨by simp, by simp, .inl hp⟩) (fun hon => ?_)
    · by_cases hj : j = e.string
      · subst hj; simp [hi]
      · simp [hj]
    · obtain ⟨rfl, -⟩ : e.string = j ∧ false = b := by simpa using hb
      simp
    · by_cases hje : j = e.string
      · rw [hje]
      · rw [Function.update_of_ne hje] at hj
        exact absurd hj (hh j)
    · rw [show (viewed s).release = .free from hl] at hon
      exact hon.elim
  have rest : (viewed u).AtRest := by
    rw [hv]
    exact ⟨hr.claimed, hr.flying⟩
  change agreeing (if u.plant.discharge || u.plant.hold then
      endDose .released false (modDose (fun d => { d with outcome := some .stopped }) u)
    else claimWater (.openValve e.string) u)
  split
  · have same : viewed (modDose (fun d => { d with outcome := some .stopped }) u) = viewed u :=
      viewed_modDose fun _ => ⟨rfl, rfl⟩
    exact agrees_endDose (agreeing_of_viewed hu same) (by rw [same]; exact rest) (fun _ => hp) (by simp)
  · exact agrees_claimWater_rest hu (by rw [hv]; exact ⟨rfl, false, rfl⟩) rest.flying (by simp)

theorem eligibleWater_open {e : QueueEntry} (h : eligibleWater s e = true) :
    (recordOf s e.string).state = .float ∧ s.wac.state = .idle ∧ s.loop.release = .free := by
  simp only [eligibleWater, stringReady, waterOpen, loopFree, Bool.and_eq_true, decide_eq_true_eq] at h
  tauto

theorem eligibleEqualise_open {e : QueueEntry} (h : eligibleEqualise s e = true) :
    (recordOf s e.string).state = .float ∧ s.eqc.state = .idle := by
  simp only [eligibleEqualise, eligibleButWindow, stringReady, equaliseOpenButWindow, Bool.and_eq_true,
    decide_eq_true_eq] at h
  tauto

theorem agrees_checkEnded (o : TxOutcome) (h : agreeing s) : agreeing (checkEnded o s) := by
  unfold checkEnded
  dsimp only
  have h1 : agreeing (modWac (fun w => { w with check := none }) s) := h
  split
  · rename_i data
    have h2 : agreeing (judgeReservoir (reservoirOf data) (modWac (fun w => { w with check := none }) s)) :=
      agreeing_of_viewed h1 (viewed_judgeReservoir _ _)
    repeat' split
    · exact agreeing_of_viewed h2 (viewed_setReservoirLow _)
    · rename_i he
      obtain ⟨hs, hw, hl⟩ := eligibleWater_open he
      exact agrees_beginDose h2 hs hw hl
    all_goals exact h2
  · exact h1

theorem agrees_judgeEqc (h : agreeing s) : agreeing (judgeEqc s) := by
  unfold judgeEqc
  split
  · rename_i e he
    split
    · obtain ⟨hs, hi⟩ := eligibleEqualise_open (List.find?_some he)
      exact agrees_beginRound h hs hi
    · exact h
  · exact h

theorem agrees_judgeWac (h : agreeing s) : agreeing (judgeWac s) := by
  unfold judgeWac
  split
  · exact agrees_claimWater_beside h rfl
  · exact h

theorem viewed_judgeWindowNeeded (s : State) : viewed (judgeWindowNeeded s) = viewed s := by
  unfold judgeWindowNeeded
  dsimp only
  split <;> rfl

theorem agrees_judge (h : agreeing s) : agreeing (judge s) := by
  have chosen {u : State} (hu : agreeing u) : agreeing { u with free := u.free + 1 } := hu
  unfold judge judgeChannels
  refine agreeing_of_viewed ?_ (viewed_judgeWindowNeeded _)
  dsimp only
  split
  · split
    · exact agrees_judgeEqc (agrees_judgeWac (chosen h))
    · exact agrees_judgeWac (agrees_judgeEqc (chosen h))
  · exact agrees_judgeWac (agrees_judgeEqc h)
end

end Sys2Proof.Laws
end

section
/-! SUPPORT. The holders over the Sweep Scanner and the Demand Unit. -/

namespace Sys2Proof.Laws

open Sys2Proof.Machine

/-! ### The Sweep Scanner and the Demand Unit hold nothing (Machine/Sweep.lean, Demand.lean) -/

section
variable (s : State)

@[simp] theorem viewed_reachItem (l : List SweepItem) : viewed (reachItem l s) = viewed s := by
  unfold reachItem
  split <;> rfl

@[simp] theorem viewed_startSweep : viewed (startSweep s) = viewed s := by
  simp [startSweep]

@[simp] theorem viewed_continueSweep (l : List SweepItem) : viewed (continueSweep l s) = viewed s := by
  unfold continueSweep
  dsimp only
  split <;> simp

theorem viewed_sweepMatched : viewed (sweepMatched s) = viewed s := by
  unfold sweepMatched lateMatch
  dsimp only
  split
  · split <;> simp
  · split <;> simp

/-- A record written with its state left is held as it was. -/
theorem viewed_modString {f : StringRecord → StringRecord} (hf : ∀ r, (f r).state = r.state) (i : StringNo) :
    viewed (modString i f s) = viewed s := by
  simp only [viewed, viewOf, modString]
  congr 1
  funext j
  by_cases hij : i.val = j.val
  · simp [hij, hf]
  · simp [hij]

theorem summaryWrite_state (x : Int) (n : Nat) (data : List Octet) (r : StringRecord) :
    (summaryWrite x n data r).state = r.state := by
  unfold summaryWrite addThroughput
  dsimp only
  split <;> rfl

@[simp] theorem viewed_spreadCheck (i : StringNo) (n : Nat) : viewed (spreadCheck i n s) = viewed s := by
  unfold spreadCheck
  split <;> simp

theorem viewed_sweepItemEnded (it : SweepItem) (o : TxOutcome) : viewed (sweepItemEnded it o s) = viewed s := by
  unfold sweepItemEnded
  split
  · unfold summaryAnswered
    dsimp only
    rw [viewed_continueSweep]
    split
    · exact viewed_modString s (summaryWrite_state _ _ _) _
    · rfl
  · exact viewed_continueSweep _ _
  · unfold cellsAnswered
    dsimp only
    rw [viewed_continueSweep]
    split
    · rw [viewed_spreadCheck]
      refine viewed_modString s ?_ _
      exact fun _ => rfl
    · rfl
  · exact viewed_continueSweep _ _

@[simp] theorem viewed_judgeDemand : viewed (judgeDemand s) = viewed s := by
  unfold judgeDemand
  repeat' split
  all_goals rfl

@[simp] theorem viewed_listRestarted (i : StringNo) : viewed (listRestarted i s) = viewed s := by
  unfold listRestarted
  dsimp only
  split <;> rfl

theorem viewed_appendDemand (w : DemandWord) : viewed (appendDemand w s) = viewed s := by
  unfold appendDemand appendEntry dropDemand
  dsimp only
  repeat' split
  all_goals rfl
end

section
variable {s : State}

theorem agrees_decideOnString (i : StringNo) (o : EqOutcome) (h : agreeing s) : agreeing (decideOnString i o s) := by
  unfold decideOnString
  repeat' split
  · exact agrees_decideEqualise o h
  · exact h
  · exact h

theorem agrees_decideDoseOn (i : StringNo) (o : WaterOutcome) (h : agreeing s) : agreeing (decideDoseOn i o s) := by
  unfold decideDoseOn
  repeat' split
  · exact agrees_decideWater o h
  · exact h
  · exact h

theorem agrees_nodeDemand (i : StringNo) (k : DemandKind) (h : agreeing s) : agreeing (nodeDemand i k s) := by
  cases k with
  | levelLow => exact agreeing_of_viewed h (viewed_post s _)
  | overTemp => exact agrees_decideOnString _ _ h
  | valveFault => exact agrees_bar _ _ h
  | nodeRestart =>
    exact agreeing_of_viewed (agrees_decideDoseOn _ _ (agrees_decideOnString _ _ h)) (viewed_listRestarted _ _)
  | boostFault | reservoirLow | flowLeak => exact h

theorem agrees_demandAction (w : DemandWord) (h : agreeing s) : agreeing (demandAction w s) := by
  unfold demandAction
  split
  · exact agrees_nodeDemand _ _ h
  · split
    · cases w.kind with
      | nodeRestart | boostFault => exact agrees_boostDistrusted _ h
      | levelLow | overTemp | valveFault | reservoirLow | flowLeak => exact h
    · cases w.kind with
      | nodeRestart => exact agrees_decideWater _ h
      | reservoirLow => exact agreeing_of_viewed h (viewed_setReservoirLow s)
      | flowLeak => exact agrees_flowLeak h
      | levelLow | overTemp | valveFault | boostFault => exact h

theorem agrees_takePoll (x : PollRead) (h : agreeing s) : agreeing (takePoll x s) := by
  cases x with
  | empty => exact h
  | word w =>
    have h1 : agreeing (pollReturned (some (w.member, w.kind)) s) := h
    exact agreeing_of_viewed (agrees_demandAction w h1) (viewed_appendDemand _ w)
  | failed => exact h
end

end Sys2Proof.Laws
end

section
/-! SUPPORT. The holders over the Loop Controller's updates. -/

namespace Sys2Proof.Laws

open Sys2Proof.Machine

/-! ### What the Loop Controller's updates keep -/

namespace HoldView.Agrees

variable {v : HoldView}

/-- What goes on the loop, by its claimant. -/
theorem flies (h : v.Agrees) {c : Option Claimant}
    (hE : c = some (.equalise .clearDetach) → v.eqc = .fault ∧ v.claimE ≠ some .clearDetach)
    (hW : ∀ j, c = some (.water j) → v.fits true j ∧ ∀ k, v.claimW = some k → j.alone = true → k.alone = false)
    (hS : ∀ j, c = some (.safeState j) → Release.safe v.release ∧ (j = .detach → v.claimE ≠ some .clearDetach)
      ∧ (j = .pumpOff → v.claimW ≠ some .clearPumpOff)) : { v with fly := c }.Agrees where
  __ := h
  eqFly := hE
  eqSafe hc := (hS _ hc).2.1 rfl
  claimFits j hj := fits_of_same (h.claimFits j hj) rfl rfl rfl rfl rfl
  flyFits j hj := fits_of_same (hW j hj).1 rfl rfl rfl rfl rfl
  flyAlone j k hj hk := (hW j hj).2 k hk
  safeRelease j hj := (hS j hj).1
  safePump hc := (hS _ hc).2.2 rfl

theorem lands (h : v.Agrees) : { v with fly := none }.Agrees := h.flies (by simp) (by simp) (by simp)

theorem releases (h : v.Agrees) {r : Release} (hs : ∀ j, v.fly = some (.safeState j) → Release.safe r)
    (hr : Release.on r → v.valve = .empty ∧ v.pump = .off ∧ v.dose = none) : { v with release := r }.Agrees where
  __ := h
  claimFits j hj := fits_of_same (h.claimFits j hj) rfl rfl rfl rfl rfl
  flyFits j hj := fits_of_same (h.flyFits j hj) rfl rfl rfl rfl rfl
  safeRelease := hs
  released := hr

end HoldView.Agrees

theorem Release.on_of_safe {r : Release} (h : Release.safe r) : Release.on r := by
  cases r <;> simp_all [Release.on, Release.safe]

/-- A claimant other than the two channels and the sequence. -/
def Claimant.apart : Claimant → Prop
  | .reconfiguration _ | .sweep _ | .slot _ => True
  | _ => False

section
variable {s : State}

theorem agrees_lands (h : agreeing s) : agreeing (setInFlight none s) := h.lands

theorem agrees_setRelease {r : Release} (h : agreeing s)
    (hs : ∀ j, (viewed s).fly = some (.safeState j) → Release.safe r)
    (hr : Release.on r → s.wac.valve = .empty ∧ s.wac.pump = .off ∧ (viewed s).dose = none) :
    agreeing (setRelease r s) :=
  h.releases hs hr

/-- A release that ends its grant or its wait, while no transaction of the sequence is in flight. -/
theorem agrees_setRelease_off {r : Release} (h : agreeing s) (hr : ¬ Release.on r)
    (hs : ¬ Release.safe s.loop.release ∨ (viewed s).fly = none) : agreeing (setRelease r s) :=
  agrees_setRelease h
    (fun j hj => hs.elim (fun hn => absurd (h.safeRelease j hj) hn) fun hn => by simp [hn] at hj) fun hon => absurd hon hr

theorem agrees_setRelease_safe {r : Release} (h : agreeing s) (hr : Release.safe r) (hs : Release.on s.loop.release) :
    agreeing (setRelease r s) :=
  agrees_setRelease h (fun _ _ => hr) fun _ => h.released hs

/-- A transaction of the scanner, of a slot or of the Demand Unit. -/
theorem agrees_startTransaction {c : Claimant} (m : MemberNo) (k : LoopCommand) (h : agreeing s)
    (hc : Claimant.apart c) : agreeing (startTransaction c m k s) := by
  refine h.flies (c := some c) (fun he => ?_) (fun j hj => ?_) (fun j hj => ?_)
  · obtain rfl := Option.some.inj he
    exact hc.elim
  · obtain rfl := Option.some.inj hj
    exact hc.elim
  · obtain rfl := Option.some.inj hj
    exact hc.elim

theorem agrees_grantSlot (p : SlotPort) (m : MemberNo) (k : LoopCommand) (h : agreeing s) :
    agreeing (grantSlot p m k s) := by
  have slot (x : Slot) : viewed (setSlot p x s) = viewed s := by cases p <;> rfl
  unfold grantSlot
  split
  · exact agreeing_of_viewed h (slot _)
  · exact agrees_startTransaction _ _ (agreeing_of_viewed h (slot _)) trivial

theorem agrees_handAbsence (m : MemberNo) (h : agreeing s) : agreeing (handAbsence m s) := by
  unfold handAbsence
  repeat' split
  · exact agrees_bar _ _ h
  · exact agrees_decideEqualise _ h
  · exact agrees_decideWater _ h

/-! ### The safe-state sequence (R82, R119, R151) -/

/-- A transaction of the sequence, sent in its release. -/
theorem agrees_send {j : SafeJob} (m : MemberNo) (k : LoopCommand) (h : agreeing s) (hs : Release.safe s.loop.release)
    (hd : j = .detach → s.loop.claimEqualise ≠ some .clearDetach)
    (hp : j = .pumpOff → s.loop.claimWater ≠ some .clearPumpOff) :
    agreeing (startTransaction (.safeState j) m k s) := by
  refine h.flies (c := some (.safeState j)) (by simp) (by simp) fun i hi => ?_
  obtain rfl : j = i := by simpa using hi
  exact ⟨hs, hd, hp⟩

theorem agrees_serveDetach (h : agreeing s) :
    agreeing (serveDetach s) ∧ (serveDetach s).loop.claimEqualise ≠ some .clearDetach := by
  unfold serveDetach
  split
  · exact ⟨agrees_withdrawEqualise h, by simp [withdrawEqualise]⟩
  · exact ⟨agrees_withdrawEqualise h, by simp [withdrawEqualise]⟩
  · exact ⟨agrees_withdrawEqualise h, by simp [withdrawEqualise]⟩
  · rename_i hn
    exact ⟨h, hn⟩

theorem agrees_servePumpOff (h : agreeing s) :
    agreeing (servePumpOff s) ∧ (servePumpOff s).loop.claimWater ≠ some .clearPumpOff := by
  unfold servePumpOff
  split
  · exact ⟨agrees_withdrawWater h, by simp [withdrawWater]⟩
  · rename_i hn
    exact ⟨h, hn⟩

@[simp] theorem serveDetach_line (s : State) : (serveDetach s).loop.inFlight = s.loop.inFlight
    ∧ (serveDetach s).loop.release = s.loop.release := by
  unfold serveDetach
  split <;> simp

@[simp] theorem servePumpOff_line (s : State) : (servePumpOff s).loop.inFlight = s.loop.inFlight
    ∧ (servePumpOff s).loop.release = s.loop.release := by
  unfold servePumpOff
  split <;> simp

theorem agrees_sendStep (x : SafeStep) (h : agreeing s) (hs : Release.safe s.loop.release) :
    agreeing (sendStep x s) := by
  cases x with
  | close i => exact agrees_send _ _ h hs (by simp) (by simp)
  | pumpOff =>
    obtain ⟨h1, hp⟩ := agrees_servePumpOff h
    exact agrees_send _ _ h1 (by simpa using hs) (by simp) fun _ => hp
  | boost =>
    change agreeing (sendBoost s)
    unfold sendBoost
    split
    · exact agrees_send _ _ h hs (by simp) (by simp)
    · obtain ⟨h1, hd⟩ := agrees_serveDetach h
      exact agrees_send _ _ h1 (by simpa using hs) (fun _ => hd) (by simp)

theorem agrees_nextSafe (h : agreeing s) (hf : s.loop.inFlight = none) : agreeing (nextSafe s) := by
  have hv : (viewed s).fly = none := by simp [viewed, viewOf, hf, claimantOf]
  unfold nextSafe
  split
  · rename_i recorded todo hr
    have on : Release.on s.loop.release := by rw [hr]; trivial
    split
    · exact agrees_sendStep _ (agrees_setRelease_safe h trivial on) trivial
    · unfold finishSafe
      split
      · exact agrees_setRelease_off h id (.inr hv)
      · exact agrees_removePause _ (agrees_setRelease_off h id (.inr hv))
  · exact h

theorem agrees_startSafe (h : agreeing s) (hf : s.loop.inFlight = none) : agreeing (startSafe s) := by
  unfold startSafe
  split
  · rename_i recorded hr
    have on : Release.on s.loop.release := by rw [hr]; trivial
    exact agrees_nextSafe (agrees_setRelease_safe h trivial on) hf
  · exact h

theorem agrees_endRelease (h : agreeing s) (hr : Release.on s.loop.release) : agreeing (endRelease s) := by
  have h1 : agreeing (setRelease (.safeState false none) s) := agrees_setRelease_safe h trivial hr
  unfold endRelease
  dsimp only
  split
  · rename_i hf
    exact agrees_startSafe h1 (Option.isNone_iff_eq_none.mp hf)
  · exact h1
end

end Sys2Proof.Laws
end

section
/-! SUPPORT. The holders over the end of a transaction. -/

namespace Sys2Proof.Laws

open Sys2Proof.Machine

/-! ### The end of a transaction (R138, R139) -/

section
variable {s : State}

/-- A transaction of the sequence that has just left the loop. -/
structure SafeLanded (j : SafeJob) (s : State) : Prop where
  safe : Release.safe s.loop.release
  none : s.loop.inFlight = none
  detach : j = .detach → s.loop.claimEqualise ≠ some .clearDetach
  pumpOff : j = .pumpOff → s.loop.claimWater ≠ some .clearPumpOff

theorem viewed_fly_none (h : s.loop.inFlight = none) : (viewed s).fly = none := by
  simp [viewed, viewOf, h, claimantOf]

theorem agrees_safeDetachEnded (o : TxOutcome) (h : agreeing s) (hl : SafeLanded .detach s) :
    agreeing (safeDetachEnded o s) := by
  unfold safeDetachEnded
  split
  · rename_i hf
    split
    · exact agrees_clearDetachEnded o h hf (hl.detach rfl) (viewed_fly_none hl.none)
    · split
      · exact h
      · exact h
  · rename_i hi
    split
    · exact h
    · exact agrees_enterEqcFault h (viewed_round_eq_none h (.inl hi))
  · exact agrees_detachEnded o h

/-- In a release the valve record is empty, so a clear goes no further than its PUMP OFF (R119). -/
theorem atRest_of_clear (h : agreeing s) (hl : SafeLanded .pumpOff s) (hf : s.wac.state = .fault) :
    (viewed s).AtRest := by
  obtain ⟨hv, -⟩ := h.released (Release.on_of_safe hl.safe)
  refine ⟨fun k hk => ?_, fun j hj => by simp [viewed_fly_none hl.none] at hj⟩
  have hfit := h.claimFits k hk
  have hf' : (viewed s).wac = .fault := hf
  have hp : k ≠ .clearPumpOff := fun he => hl.pumpOff rfl (he ▸ hk)
  cases k <;> simp_all [HoldView.fits, WaterJob.alone, LinkRecord.holds]

theorem agrees_safePumpOffEnded (o : TxOutcome) (h : agreeing s) (hl : SafeLanded .pumpOff s) :
    agreeing (safePumpOffEnded o s) := by
  unfold safePumpOffEnded
  split
  · rename_i hf
    split
    · rename_i hc
      exact agrees_clearPumpOffEnded o h (atRest_of_clear h hl hf) hf hc
    · exact h
  · rename_i hi
    split
    · exact h
    · exact agrees_enterWacFault_of_idle h hi
  · exact h

theorem agrees_safeJobEnded (j : SafeJob) (o : TxOutcome) (h : agreeing s) (hl : SafeLanded j s) :
    agreeing (safeJobEnded j o s) := by
  cases j with
  | close i =>
    cases o with
    | answer data => exact h
    | _ => exact agrees_bar _ _ h
  | pumpOff => exact agrees_safePumpOffEnded o h hl
  | attach i =>
    cases o with
    | answer data => exact h
    | _ => exact agrees_decideEqualise _ h
  | standby i =>
    change agreeing (safeStandbyEnded o s)
    unfold safeStandbyEnded
    repeat' split
    · exact h
    · exact agrees_removePause _ h
    · exact agrees_decideEqualise _ h
  | detach => exact agrees_safeDetachEnded o h hl

theorem agrees_handWater {j : WaterJob} (o : TxOutcome) (h : agreeing s) (hl : Landed j s) :
    agreeing (handOutcome (.water j) o s) := by
  cases j with
  | check => exact agrees_checkEnded o h
  | reservoirPoll => exact agrees_reservoirPollEnded o h
  | openValve i => exact agrees_openValveEnded o h hl
  | pumpOn => exact agrees_pumpOnEnded o h hl
  | dosePoll => exact agrees_dosePollEnded o h hl
  | pumpOff => exact agrees_pumpOffEnded o h hl
  | closeValve i => exact agrees_closeValveEnded o h hl
  | faultPumpOff => exact agrees_faultPumpOffEnded o h
  | clearPumpOff => exact agrees_clearPumpOffEnded o h (hl.atRest rfl) hl.fits.1 hl.fits.2
  | clearClose i => exact agrees_clearCloseEnded o h hl

theorem agrees_handEqualise {j : EqJob} (o : TxOutcome) (h : agreeing s)
    (hc : j = .clearDetach → s.eqc.state = .fault ∧ s.loop.claimEqualise ≠ some .clearDetach)
    (hf : (viewed s).fly = none) : agreeing (handOutcome (.equalise j) o s) := by
  cases j with
  | attach i => exact agrees_attachEnded i o h
  | connectStandby => exact agrees_connectStandbyEnded o h
  | setPoint sp =>
    cases o with
    | answer data => exact agrees_setPointAnswered _ h
    | _ => exact agrees_setPointFailed h
  | pauseStandby => exact agrees_pauseStandbyEnded o h
  | refresh => exact agrees_refreshEnded o h
  | detach => exact agrees_detachEnded o h
  | faultDetach => exact agreeing_of_viewed h (viewed_faultDetachEnded o s)
  | clearDetach => exact agrees_clearDetachEnded o h (hc rfl).1 (hc rfl).2 hf

/-- What was in flight leaves the loop and is handed to its claimant. -/
theorem agrees_handOutcome {c : Claimant} (o : TxOutcome) (h : agreeing s) (hc : (viewed s).fly = some c) :
    agreeing (handOutcome c o (setInFlight none s)) := by
  have h1 := agrees_lands h
  cases c with
  | reconfiguration i => exact h1
  | sweep it => exact agreeing_of_viewed h1 (viewed_sweepItemEnded _ it o)
  | slot p => cases p <;> exact h1
  | safeState j =>
    exact agrees_safeJobEnded j o h1 ⟨h.safeRelease j hc, rfl, fun he => h.eqSafe (he ▸ hc), fun he => h.safePump (he ▸ hc)⟩
  | water j =>
    refine agrees_handWater o h1 ⟨?_, fun ha k hk => h.flyAlone j k hc hk ha, rfl⟩
    exact fits_of_same (h.flyFits j hc) rfl rfl rfl rfl rfl
  | equalise j => exact agrees_handEqualise o h1 (fun he => h.eqFly (he ▸ hc)) rfl

theorem safeJobEnded_line (j : SafeJob) (o : TxOutcome) (s : State) :
    (safeJobEnded j o s).loop.inFlight = s.loop.inFlight ∧ (safeJobEnded j o s).loop.release = s.loop.release := by
  unfold safeJobEnded safePumpOffEnded safeAttachEnded safeStandbyEnded safeDetachEnded
  repeat' split
  all_goals simp

theorem agrees_afterEnd {t : Transaction} (o : TxOutcome) (h : agreeing s) (hf : s.loop.inFlight = none)
    (hs : ∀ j, t.claimant = .safeState j → Release.safe s.loop.release) : agreeing (afterEnd t o s) := by
  unfold afterEnd
  split
  · rename_i j hj
    unfold safeGoesOn
    split
    · exact agrees_send _ _ h (hs _ hj) (by simp) (by simp)
    · exact agrees_nextSafe h hf
  · split
    · exact agrees_startSafe h hf
    · exact h

/-- With the outcome handed over, and the marking absent with it, the loop carries nothing and the release is as it was. -/
theorem handed_line (c : Claimant) (o : TxOutcome) (s : State) :
    (handOutcome c o s).loop.inFlight = s.loop.inFlight ∧ (handOutcome c o s).loop.release = s.loop.release := by
  by_cases hc : ∃ j, c = .safeState j
  · obtain ⟨j, rfl⟩ := hc
    exact safeJobEnded_line j o s
  · exact handOutcome_line c o s fun j hj => hc ⟨j, hj⟩

theorem agrees_endTransaction {t : Transaction} (o : TxOutcome) (h : agreeing s)
    (ht : s.loop.inFlight = some (.transaction t)) : agreeing (endTransaction t o s) := by
  have counted {u : State} (hu : u.loop.inFlight = some (.transaction t)) : (viewed u).fly = some t.claimant := by
    simp [viewed, viewOf, hu, claimantOf]
  have safe (j : SafeJob) (hj : t.claimant = .safeState j) : Release.safe s.loop.release :=
    h.safeRelease j (hj ▸ counted ht)
  have hc : agreeing (countOutcome t.member o s) := h
  have hn : agreeing { countOutcome t.member o s with free := (countOutcome t.member o s).free + 1 } := h
  have hm := agrees_handAbsence t.member hn
  have lm := handAbsence_line { countOutcome t.member o s with free := (countOutcome t.member o s).free + 1 } t.member
  unfold endTransaction handBoth
  dsimp only
  refine agreeing_of_viewed (agrees_judge (agrees_afterEnd o ?_ ?_ fun j hj => ?_)) (viewed_judgeDemand _)
  · split_ifs
    · exact agrees_handOutcome o hm (counted (lm.1.trans ht))
    · exact agrees_handAbsence _ (agrees_handOutcome o hn (counted ht))
    · exact agrees_handOutcome o hc (counted ht)
  · split_ifs <;> simp [handed_line, setInFlight, modLoop]
  · have := safe j hj
    split_ifs <;> simpa [handed_line, setInFlight, modLoop, countOutcome]
end

end Sys2Proof.Laws
end

section
/-! SUPPORT. The holders over the arbiter's grants. -/

namespace Sys2Proof.Laws

open Sys2Proof.Machine

/-! ### What the arbiter grants (R144, R148) -/

/-- PUMP ON is noted as sent: the dose may have the pump on. -/
theorem HoldView.Agrees.pumpSent {v : HoldView} (h : v.Agrees) {i : StringNo} {b : Bool} (hd : v.dose = some (i, b)) :
    { v with dose := some (i, true) }.Agrees := by
  have fits {f : Bool} {j : WaterJob} (hj : v.fits f j) : { v with dose := some (i, true) }.fits f j := by
    cases j
    case pumpOn =>
      obtain ⟨hw, k, c, hk, hv, -⟩ := hj
      obtain ⟨rfl, -⟩ : i = k ∧ b = c := by simpa [hd] using hk
      exact ⟨hw, i, true, rfl, hv, fun _ => rfl⟩
    all_goals simp_all [HoldView.fits]
  exact { h with
    doseHeld := fun j c hc => by
      obtain ⟨rfl, -⟩ : i = j ∧ true = c := by simpa using hc
      exact h.doseHeld i b hd
    waHolder := fun j hj => .inl ⟨true, by rw [h.holder_dose hd hj]⟩
    doseState := fun j c hc => by
      obtain ⟨rfl, rfl⟩ : i = j ∧ true = c := by simpa using hc
      obtain ⟨hi, hf, hp⟩ := h.doseState i b hd
      exact ⟨hi, hf, hp.imp_right fun hv => ⟨rfl, hv.2⟩⟩
    claimFits := fun j hj => fits (h.claimFits j hj)
    flyFits := fun j hj => fits (h.flyFits j hj)
    released := fun hon => absurd hon (h.notReleased hd) }

section
variable {s : State}

theorem agrees_grantDemand (j : DemandJob) (h : agreeing s) : agreeing (grantDemand j s) := by
  cases j with
  | poll => exact h.lands
  | config i => exact agrees_startTransaction (s := modLoop (fun l => { l with claimDemand := none }) s) _ _ h trivial

theorem agrees_grantSweep (it : SweepItem) (h : agreeing s) : agreeing (grantSweep it s) := by
  have h1 : agreeing (modLoop (fun l => { l with claimSweep := none }) s) := h
  cases it with
  | summary i | cells i => exact agrees_startTransaction _ _ h1 trivial
  | closeValve i =>
    unfold grantSweep
    dsimp only
    split
    · exact agreeing_of_viewed h1 (viewed_continueSweep _ _)
    · exact agrees_startTransaction _ _ h1 trivial

/-- A claim of the Equalise Channel is withdrawn and goes on the loop. -/
theorem agrees_grantEqualise {j : EqJob} (h : agreeing s) (hj : s.loop.claimEqualise = some j) :
    agreeing (grantEqualise j s) := by
  have granted : { (viewed (withdrawEqualise s)) with fly := some (.equalise j) }.Agrees := by
    refine (agrees_withdrawEqualise h).flies (fun he => ⟨h.eqClaim ?_, by simp⟩) (by simp) (by simp)
    obtain rfl : j = .clearDetach := by simpa using he
    exact hj
  cases j with
  | setPoint sp =>
    have sent := viewed_modRound (withdrawEqualise s)
      (f := fun r => { r with acct := { r.acct with sent := some sp } }) fun _ => rfl
    change agreeing (startTransaction _ _ _ (modRound _ _))
    rw [agreeing, viewed_startTransaction, sent]
    exact granted
  | _ => exact granted

/-- A claim of the Water Channel is withdrawn and goes on the loop; PUMP ON is noted as sent (R107). -/
theorem agrees_grantWater {j : WaterJob} (h : agreeing s) (hj : s.loop.claimWater = some j) :
    agreeing (grantWater j s) := by
  have hfit : (viewed s).fits false j := h.claimFits j hj
  have h1 := agrees_withdrawWater h
  have granted (hn : j ≠ .pumpOn) : { (viewed (withdrawWater s)) with fly := some (.water j) }.Agrees := by
    refine h1.flies (by simp) (fun k hk => ⟨?_, by simp⟩) (by simp)
    obtain rfl : j = k := by simpa using hk
    cases j
    case pumpOn => exact absurd rfl hn
    all_goals exact fits_of_same hfit rfl rfl rfl rfl rfl
  cases j with
  | pumpOn =>
    obtain ⟨hw, i, b, hb, hv, -⟩ := hfit
    have sent : viewed (modDose (fun d => { d with pumpOnSent := true }) (withdrawWater s)) =
        { viewed (withdrawWater s) with dose := some (i, true) } := by
      have hd : s.wac.dose.map (fun d => (d.string, d.pumpOnSent)) = some (i, b) := hb
      obtain ⟨d, hd, he⟩ := Option.map_eq_some_iff.mp hd
      simp only [viewed, viewOf, modDose, modWac, Option.map_map]
      congr 1
      change s.wac.dose.map _ = _
      simp_all
    change agreeing (startTransaction _ _ _ (modDose _ _))
    rw [agreeing, viewed_startTransaction, sent]
    refine (h1.pumpSent hb).flies (by simp) (fun k hk => ⟨?_, by simp⟩) (by simp)
    obtain rfl : WaterJob.pumpOn = k := by simpa using hk
    exact ⟨hw, i, true, rfl, hv, fun _ => rfl⟩
  | _ => exact granted (by simp)

theorem agrees_grantAtBoundary (h : agreeing s) : agreeing (grantAtBoundary s) := by
  unfold grantAtBoundary grantHighest grantPassThrough
  split
  · split
    · exact agrees_grantDemand _ h
    · exact agrees_grantSweep _ h
    · rename_i hj
      exact agrees_grantWater h hj
    · rename_i hj
      exact agrees_grantEqualise h hj
    · split
      · exact agrees_grantSlot _ _ _ h
      · exact agrees_grantSlot _ _ _ h
      · exact h
  · exact h

theorem agrees_grantService (h : agreeing s) : agreeing (grantService s) := by
  unfold grantService
  split
  · exact agrees_grantSlot _ _ _ h
  · exact h

/-- The conditions of the grant (R148) leave no dose. -/
theorem agrees_grantRelease (h : agreeing s) (hf : s.loop.inFlight = none) (hc : grantConditions s = true) :
    agreeing (grantRelease s) := by
  simp only [grantConditions_eq, Bool.and_eq_true, Bool.or_eq_true, decide_eq_true_eq] at hc
  obtain ⟨⟨⟨hv, hp⟩, -⟩, hw⟩ := hc
  have hd : (viewed s).dose = none := by
    cases hd : (viewed s).dose with
    | none => rfl
    | some x => exact (hw.elim (h.doseState x.1 x.2 hd).1 (h.doseState x.1 x.2 hd).2.1).elim
  have h1 : agreeing (setRelease (.released false) s) :=
    agrees_setRelease h (by simp [viewed_fly_none hf]) fun _ => ⟨hv, hp, hd⟩
  exact agrees_grantService h1
end

end Sys2Proof.Laws
end

section
/-! SUPPORT. The holders over plant, schedule and tick. -/

namespace Sys2Proof.Laws

open Sys2Proof.Machine

/-! ### The Window and Plant Unit, and the Schedule List (Machine/Plant.lean, Schedule.lean) -/

section
variable {s : State}

theorem agrees_openWindow (b m : Nat) (h : agreeing s) : agreeing (openWindow b m s) := by
  unfold openWindow
  dsimp only
  refine agrees_judge ?_
  split
  · exact h
  · exact agrees_removePause (s := modPlant _ s) _ h

theorem agrees_closeWindowNow (h : agreeing s) : agreeing (closeWindowNow s) := by
  unfold closeWindowNow
  split
  · exact agrees_judge (agrees_addPause (s := modPlant _ s) _ h)
  · exact h

theorem agrees_staleEnds (h : agreeing s) : agreeing (staleEnds s) := by
  unfold staleEnds
  dsimp only
  split
  · exact agrees_removePause (s := modPlant _ s) _ h
  · exact h

theorem agrees_writePlant (x : PlantReport) (h : agreeing s) : agreeing (writePlant x s) := by
  have h1 : agreeing (modPlant (fun w => { w with report := some x, age := 0, aged := false }) s) := h
  unfold writePlant
  dsimp only
  refine agrees_judge (agrees_staleEnds ?_)
  split
  · exact agrees_decideWater _ (agrees_decideEqualise _ h1)
  · exact h1

theorem agrees_staleArises (h : agreeing s) : agreeing (staleArises s) := by
  have h1 : agreeing (modPlant (fun w => { w with stale := true, staleDue := false }) s) := h
  unfold staleArises
  dsimp only
  refine agrees_judge (agreeing_of_viewed ?_ (viewed_raise _ _))
  split
  · exact h1
  · exact agrees_addPause _ h1

theorem agrees_setHold (h : agreeing s) : agreeing (setHold s) := by
  unfold setHold
  split
  · exact h
  · exact agrees_judge (agrees_addPause (s := modPlant _ s) _ h)

theorem agrees_clearHold (h : agreeing s) : agreeing (clearHold s) := by
  unfold clearHold
  split
  · exact agrees_judge (agrees_removePause (s := modPlant _ s) _ h)
  · exact h

theorem agrees_traverse (h : agreeing s) : agreeing (traverse s) := by
  refine foldl_keeps (P := agreeing) _ (fun t i ht => ?_) _ s h
  unfold judgeEntry
  dsimp only
  split
  · exact agrees_judge (agreeing_of_viewed ht (viewed_post _ _))
  · exact ht

/-! ### The site tick (Machine/Tick.lean) -/

/-- Records rewritten one by one are held as they were. -/
theorem agrees_records {t : State} {rs : Vector StringRecord 8} (h : agreeing s)
    (ht : viewed t = viewOf rs s.eqc s.wac s.loop)
    (hr : ∀ i : StringNo, rs[i].state.holder = s.strings[i].state.holder) : agreeing t := by
  refine agreeing_of_viewed h (ht.trans ?_)
  simp only [viewed, viewOf]
  congr 1
  exact funext hr

theorem minuteRecord_holder (r : StringRecord) : (minuteRecord r).state.holder = r.state.holder := by
  unfold minuteRecord
  split
  · rename_i n hn
    rw [hn]
    rfl
  · rfl

theorem hourRecord_state (b : Bool) (r : StringRecord) : (hourRecord b r).state = r.state := by
  unfold hourRecord
  split <;> rfl

theorem ageRecord_state (b : Bool) (r : StringRecord) : (ageRecord b r).state = r.state := by
  unfold ageRecord
  split <;> rfl

theorem agrees_takeMinute (h : agreeing s) : agreeing (takeMinute s) := by
  unfold takeMinute
  split
  · exact agrees_records (rs := s.strings.map minuteRecord) h rfl fun i => by simp [minuteRecord_holder]
  · exact h

theorem agrees_takeHour (h : agreeing s) : agreeing (takeHour s) := by
  unfold takeHour
  split
  · refine agrees_records
      (rs := Vector.ofFn fun i : StringNo => hourRecord s.settings.installed[i] s.strings[i]) h rfl fun i => ?_
    simp [hourRecord_state]
  · exact h

theorem agrees_takeSettleEnd (i : StringNo) (h : agreeing s) : agreeing (takeSettleEnd i s) := by
  unfold takeSettleEnd
  split
  · rename_i hs
    exact agrees_judge (agreeing_of_viewed h (viewed_setStringState_same (by rw [hs]; rfl)))
  · exact h

theorem agrees_takeWindowExpiry (h : agreeing s) : agreeing (takeWindowExpiry s) := by
  unfold takeWindowExpiry
  split
  · exact agrees_closeWindowNow h
  · exact h

theorem agrees_takeSweepMatch (h : agreeing s) : agreeing (takeSweepMatch s) := by
  unfold takeSweepMatch
  split
  · exact agreeing_of_viewed h (viewed_sweepMatched _)
  · exact h

theorem agrees_takeScheduleMatch (h : agreeing s) : agreeing (takeScheduleMatch s) := by
  unfold takeScheduleMatch
  split
  · exact agrees_traverse (s := { s with schedule := { s.schedule with matchDue := false } }) h
  · exact h

theorem agrees_takePeriodExpiry (h : agreeing s) : agreeing (takePeriodExpiry s) := by
  unfold takePeriodExpiry
  repeat' split
  · rename_i hr _
    exact agrees_periodExpires h (Basic.openRound_eq_some hr).1
  · exact h
  · rename_i hr _
    exact agrees_periodExpires h (Basic.openRound_eq_some hr).1
  · exact h
  · exact h

theorem agrees_takeStandbyRefresh (h : agreeing s) : agreeing (takeStandbyRefresh s) := by
  unfold takeStandbyRefresh
  repeat' split
  · exact agrees_claimEqualise (agrees_stopTimer h) (by simp)
  · exact h
  · exact h

theorem agrees_takePauseExpired (h : agreeing s) : agreeing (takePauseExpired s) := by
  unfold takePauseExpired
  repeat' split
  · exact agrees_decideEqualise _ h
  · exact h
  · exact h

theorem agrees_takeDosePoll (h : agreeing s) : agreeing (takeDosePoll s) := by
  unfold takeDosePoll
  repeat' split
  · rename_i hd _ _ _ _
    exact agrees_claimWater_beside (agrees_setDose h hd rfl rfl) rfl
  · exact h
  · exact h
  · exact h

theorem agrees_takeMaximumDose (h : agreeing s) : agreeing (takeMaximumDose s) := by
  unfold takeMaximumDose
  repeat' split
  · exact agrees_decideWater _ h
  · exact h
  · exact h

theorem agrees_takeReservoirPoll (h : agreeing s) : agreeing (takeReservoirPoll s) := by
  unfold takeReservoirPoll
  repeat' split
  · exact agrees_claimWater_beside (s := modWac _ s) h rfl
  · exact h
  · exact h

theorem agrees_takeStale (h : agreeing s) : agreeing (takeStale s) := by
  unfold takeStale
  split
  · exact agrees_staleArises h
  · exact h

theorem agrees_takeReleaseLimit (h : agreeing s) : agreeing (takeReleaseLimit s) := by
  unfold takeReleaseLimit
  split
  · rename_i hr
    exact agrees_judge (agrees_endRelease h (by rw [hr]; trivial))
  · exact h

theorem agrees_judgeDemand (h : agreeing s) : agreeing (judgeDemand s) := agreeing_of_viewed h (viewed_judgeDemand s)

theorem agrees_takeWaitEnd (i : StringNo) (h : agreeing s) : agreeing (takeWaitEnd i s) := by
  unfold takeWaitEnd
  split
  · exact agrees_judgeDemand h
  · exact h

theorem agrees_takeDue (h : agreeing s) : agreeing (takeDue s) := by
  unfold takeDue
  have settled := foldl_keeps (P := agreeing) (fun acc i => takeSettleEnd i acc)
    (fun t i ht => agrees_takeSettleEnd i ht) (List.finRange 8) _ (agrees_takeMinute (agrees_takeHour h))
  have matched := agrees_takeScheduleMatch (agrees_takeSweepMatch (agrees_takeWindowExpiry settled))
  have staled := agrees_takeStale (agrees_takeReservoirPoll (agrees_takeMaximumDose (agrees_takeDosePoll
    (agrees_takePauseExpired (agrees_takeStandbyRefresh (agrees_takePeriodExpiry matched))))))
  exact agrees_judgeDemand (foldl_keeps (P := agreeing) (fun acc i => takeWaitEnd i acc)
    (fun t i ht => agrees_takeWaitEnd i ht) _ _ (agrees_takeReleaseLimit staled))

theorem Dose.tick_same (b : Bool) (n : Nat) (d : Dose) :
    (Dose.tick b n d).string = d.string ∧ (Dose.tick b n d).pumpOnSent = d.pumpOnSent := by
  unfold Dose.tick
  dsimp only
  split <;> exact ⟨rfl, rfl⟩

/-- The release timer runs on in the same release (R149). -/
theorem agrees_tickRelease (n : Nat) (h : agreeing s) : agreeing { s with loop := s.loop.tick n } := by
  unfold Machine.Loop.tick
  split
  · rename_i b hr
    have on : Release.on s.loop.release := by rw [hr]; trivial
    refine agrees_setRelease (r := .released _) h (fun j hj => ?_) fun _ => h.released on
    have := h.safeRelease j hj
    rw [show (viewed s).release = .released b from hr] at this
    exact this.elim
  · exact h

theorem viewed_advance (s : State) :
    viewed (advance s) = viewed { s with loop := s.loop.tick s.settings.releaseLimit } := by
  simp only [viewed, viewOf, advance, Eqc.tick, Wac.tick, Option.map_map]
  congr 1
  · funext i
    simp [ageRecord_state]
  · cases s.wac.dose <;> simp [Dose.tick_same]

theorem agrees_takeTick (h : agreeing s) : agreeing (takeTick s) :=
  agreeing_of_viewed (agrees_tickRelease _ (agrees_takeDue h)) (viewed_advance _)
end

end Sys2Proof.Laws
end

section
/-! SUPPORT. The holders over the owners' answers. -/

namespace Sys2Proof.Laws

open Sys2Proof.Machine

/-! ### Answers (Machine/Requests.lean) -/

section
variable {s : State}

theorem agrees_answerRequestRound (k i x p rc : Octet) (d : Half) (h : agreeing s) :
    agreeing (answerRequestRound k i x p rc d s).state := by
  have posted (e : QueueEntry) : agreeing (post e s).1 := agreeing_of_viewed h (viewed_post s e)
  unfold answerRequestRound
  dsimp only
  split
  · exact h
  · split
    · exact h
    · split
      · exact posted _
      · exact agrees_judge (posted _)

theorem agrees_answerCancelRound (k i : Octet) (h : agreeing s) : agreeing (answerCancelRound k i s).state := by
  unfold answerCancelRound cancelRunning
  repeat' split
  · exact h
  · exact agrees_judge (agreeing_of_viewed h (viewed_cancelEntry s _ _))
  · exact agrees_judge (agrees_decideEqualise _ h)
  · exact h
  · exact agrees_judge (agrees_decideWater _ h)
  · exact h
  · exact h

theorem agrees_answerBar (i : Octet) (h : agreeing s) : agreeing (answerBar i s).state := by
  have barred (i : StringNo) : agreeing (judge (bar i .byRequest s)) := agrees_judge (agrees_bar i _ h)
  unfold answerBar
  dsimp only
  repeat' split
  · exact h
  · exact h
  · exact barred _
  · exact barred _
  · exact barred _

theorem agrees_answerUnbar (i : Octet) (h : agreeing s) : agreeing (answerUnbar i s).state := by
  unfold answerUnbar
  split
  · exact h
  · split
    · exact h
    · split
      · exact h
      · exact h
      · rename_i hb
        split_ifs
        · exact h
        · exact h
        · exact agrees_judge (agreeing_of_viewed h (viewed_setStringState_same (by rw [hb]; rfl)))
      · exact h

theorem agrees_answerTakeLoop (h : agreeing s) : agreeing (answerTakeLoop s).state := by
  unfold answerTakeLoop
  dsimp only
  split
  · rename_i hr
    have h1 := agrees_addPause .loopRelease (agrees_setRelease_off (r := .pending) h id
      (.inl (by rw [hr]; exact id)))
    split
    · rename_i hc
      exact agrees_judge (agrees_grantRelease h1 (Option.isNone_iff_eq_none.mp hc.1) hc.2)
    · exact agrees_judge h1
  · rename_i hr
    exact agrees_judge (agrees_addPause _ (agrees_setRelease_safe h trivial (by rw [hr]; trivial)))
  · exact h
  · exact h
  · exact h

theorem agrees_answerGiveLoop (h : agreeing s) : agreeing (answerGiveLoop s).state := by
  unfold answerGiveLoop
  split
  · rename_i hr
    exact agrees_judge (agrees_removePause _ (agrees_setRelease_off h id (.inl (by rw [hr]; exact id))))
  · rename_i hr
    exact agrees_judge (agrees_endRelease h (by rw [hr]; trivial))
  · rename_i hr
    exact agrees_setRelease_safe h trivial (by rw [hr]; trivial)
  · exact h
  · exact h

theorem viewed_setSlot (p : SlotPort) (x : Slot) (s : State) : viewed (setSlot p x s) = viewed s := by
  cases p <;> rfl

theorem agrees_answerLoopTransaction (p : Port) (m c : Octet) (d : List Octet) (h : agreeing s) :
    agreeing (answerLoopTransaction p m c d s).state := by
  have placed (sp : SlotPort) (m : MemberNo) (c : LoopCommand) : agreeing (placePass sp m c s) := by
    have h1 := agreeing_of_viewed h (viewed_setSlot sp (.waiting m c) s)
    unfold placePass
    dsimp only
    split
    · exact agrees_grantService h1
    · exact h1
  unfold answerLoopTransaction judgePass
  repeat' split
  · exact h
  · exact h
  · exact h
  · exact h
  · exact h
  · exact h
  · exact placed _ _ _

theorem agrees_answerLoopResult (p : Port) (h : agreeing s) : agreeing (answerLoopResult p s).state := by
  unfold answerLoopResult
  repeat' split
  · exact h
  · exact h
  · exact h
  · exact h
  · exact agreeing_of_viewed h (viewed_setSlot _ _ s)

theorem agrees_answerLoopRaw (o : List Octet) (h : agreeing s) : agreeing (answerLoopRaw o s).state := by
  unfold answerLoopRaw
  repeat' split
  · exact h
  · exact h
  · exact h.lands

theorem fly_equalise_iff (j : EqJob) : (viewed s).fly = some (.equalise j) ↔ equaliseInFlight s = some j := by
  unfold equaliseInFlight
  simp only [viewed, viewOf, claimantOf]
  cases s.loop.inFlight with
  | none => simp
  | some x =>
    cases x with
    | transaction t => cases ht : t.claimant <;> simp [ht]
    | poll _ => simp
    | raw _ => simp

theorem fly_safe_iff (j : SafeJob) : (viewed s).fly = some (.safeState j) ↔ safeInFlight s = some j := by
  unfold safeInFlight
  simp only [viewed, viewOf, claimantOf]
  cases s.loop.inFlight with
  | none => simp
  | some x =>
    cases x with
    | transaction t => cases ht : t.claimant <;> simp [ht]
    | poll _ => simp
    | raw _ => simp

/-- With no DETACH out, none is in flight for a clear or for the sequence (R80). -/
theorem fly_of_not_detachOut (h : ¬ detachOut s = true) :
    (viewed s).fly ≠ some (.equalise .clearDetach) ∧ (viewed s).fly ≠ some (.safeState .detach) := by
  rw [Ne, Ne, fly_equalise_iff, fly_safe_iff]
  constructor <;> intro he <;> exact h (by simp [detachOut, he])

/-- A clear of the Equalise Channel is taken with no DETACH out (R80). -/
theorem agrees_answerClearEqualise (h : agreeing s) : agreeing (answerClearEqualise s).state := by
  unfold answerClearEqualise
  split_ifs with hf hd
  · exact h
  · exact h
  · obtain ⟨hfly, hsafe⟩ := fly_of_not_detachOut hd
    exact { (show (viewed s).Agrees from h) with
      eqClaim := fun _ => not_not.mp hf
      eqFly := fun hc => absurd hc hfly
      eqSafe := fun hc => absurd hc hsafe }

/-- In FAULT with no clear outstanding the channel has no transaction of which it has one at a time. -/
theorem HoldView.Agrees.atRest_of_fault {v : HoldView} (h : v.Agrees) (hf : v.wac = .fault) (hc : v.clear = false) :
    v.AtRest where
  claimed k hk := by
    have := h.claimFits k hk
    cases k <;> simp_all [HoldView.fits, WaterJob.alone]
  flying j hj := by
    have := h.flyFits j hj
    cases j <;> simp_all [HoldView.fits, WaterJob.alone]

/-- A clear of the Water Channel is taken with none outstanding and no PUMP OFF out (R118). -/
theorem agrees_answerClearWater (h : agreeing s) : agreeing (answerClearWater s).state := by
  unfold answerClearWater
  split_ifs with hf hp
  · exact h
  · exact h
  · have hf : s.wac.state = .fault := not_not.mp hf
    have hc : s.wac.clear = false := by
      cases hc : s.wac.clear
      · rfl
      · exact absurd (by simp [pumpOffOut, hc]) hp
    have hsafe : (viewed s).fly ≠ some (.safeState .pumpOff) := by
      rw [Ne, fly_safe_iff]
      exact fun he => hp (by simp [pumpOffOut, he])
    have hr := h.atRest_of_fault hf hc
    have h1 : { viewed s with clear := true }.Agrees :=
      h.whenAtRest hr (fun _ => Iff.rfl) h.doseHeld h.waHolder h.idlePump h.doseState h.released
    exact h1.claimW ⟨hf, rfl⟩ (fun _ => hr.flying) fun _ => hsafe

theorem agrees_answerClearChannel (c : Octet) (h : agreeing s) : agreeing (answerClearChannel c s).state := by
  unfold answerClearChannel
  split
  · exact agrees_answerClearEqualise h
  · exact agrees_answerClearWater h

theorem viewed_lowerLimits (n : Nat) (s : State) : viewed (lowerLimits n s) = viewed s :=
  viewed_modDose (s := { s with queue := _ }) fun _ => ⟨rfl, rfl⟩

theorem viewed_consequences (t : Settings) (x : Setting) (s : State) : viewed (consequences t x s) = viewed s := by
  unfold consequences
  repeat' split
  · exact viewed_lowerLimits _ s
  · rfl
  · exact viewed_judgeDemand _
  · exact viewed_judgeDemand _
  · rfl
  · rfl

theorem agrees_answerWriteSetting (a b : Octet) (v : List Octet) (h : agreeing s) :
    agreeing (answerWriteSetting a b v s).state := by
  change agreeing (writeSetting a b v s).1
  unfold writeSetting
  repeat' split
  · exact h
  · exact h
  · exact h
  · exact agreeing_of_viewed h (viewed_consequences _ _ _)

theorem agrees_owner (p : Port) (r : Request) (h : agreeing s) : agreeing (owner p r s).state := by
  cases r with
  | plantStatus x v l d =>
    change agreeing (answerPlantStatus x v l d s).state
    unfold answerPlantStatus
    split
    · exact h
    · exact agrees_writePlant _ h
  | holdMaintenance => exact agrees_setHold h
  | releaseHold => exact agrees_clearHold h
  | openWindow b m =>
    change agreeing (answerOpenWindow b m s).state
    unfold answerOpenWindow
    split
    · exact h
    · exact agrees_openWindow _ _ h
  | closeWindow => exact agrees_closeWindowNow h
  | readString i =>
    change agreeing (answerReadString i s).state
    unfold answerReadString
    split <;> exact h
  | readRounds x =>
    change agreeing (answerReadRounds x s).state
    unfold answerReadRounds
    split <;> exact h
  | loopTransaction m c d => exact agrees_answerLoopTransaction p m c d h
  | loopResult => exact agrees_answerLoopResult p h
  | requestRound k i x p rc d => exact agrees_answerRequestRound k i x p rc d h
  | cancelRound k i => exact agrees_answerCancelRound k i h
  | barString i => exact agrees_answerBar i h
  | unbarString i => exact agrees_answerUnbar i h
  | clearChannel c => exact agrees_answerClearChannel c h
  | takeLoop => exact agrees_answerTakeLoop h
  | giveLoop => exact agrees_answerGiveLoop h
  | loopRaw o => exact agrees_answerLoopRaw o h
  | clearOverflow =>
    change agreeing (answerClearOverflow s).state
    unfold answerClearOverflow
    split <;> exact h
  | readLogRecord g i =>
    change agreeing (answerReadLog g i s).state
    unfold answerReadLog
    repeat' split
    all_goals exact h
  | releaseSegment g =>
    change agreeing (answerReleaseSegment g s).state
    unfold answerReleaseSegment
    repeat' split
    all_goals exact h
  | writeSetting i x v => exact agrees_answerWriteSetting i x v h
  | readSetting i x =>
    change agreeing (answerReadSetting i x s).state
    unfold answerReadSetting
    split <;> exact h
  | storeSettings =>
    change agreeing (answerStoreSettings s).state
    unfold answerStoreSettings
    split <;> exact h
  | readDemands | setClock | ackNotices | setNoticeEnables | readForecast | readNotices | restart => exact h
end

end Sys2Proof.Laws
end

section
/-! SUPPORT. The holders over every step. -/

namespace Sys2Proof.Laws

open Sys2Proof.Machine

/-! ### The ports and the loop's lines (Machine/Ports.lean) -/

section
variable {s : State}

theorem agrees_answer (p : Port) (r : Request) (h : agreeing s) : agreeing (answer p r s).state := by
  unfold answer
  repeat' split
  · exact h
  · exact h
  · exact agrees_owner _ _ h

theorem agrees_answerBody (p : Port) (c : Octet) (l : List Octet) (h : agreeing s) :
    agreeing (answerBody p c l s).state := by
  unfold answerBody
  repeat' split
  · exact h
  · exact agrees_answer _ _ h
  · exact h

theorem agrees_setRx (p : Port) (x : RxState) (h : agreeing s) : agreeing (setRx p x s) := h

theorem agrees_receiveChar (p : Port) (c : LineChar) (h : agreeing s) : agreeing (receiveChar p c s) := by
  have judged (n : Octet) (l : List Octet) (b : Bool) : agreeing (judgeFrame p n l b s) := by
    unfold judgeFrame
    repeat' split
    · exact h
    · exact agrees_setRx _ _ (agrees_answerBody _ _ _ h)
    · exact h
    · exact h
  unfold receiveChar frameOctet
  dsimp only
  repeat' split
  all_goals first | exact h | exact judged _ _ _

theorem agrees_receiveChars (p : Port) (cs : List LineChar) (h : agreeing s) : agreeing (receiveChars p cs s) :=
  foldl_keeps (P := agreeing) (fun acc c => receiveChar p c acc) (fun _ c ht => agrees_receiveChar p c ht) cs s h

theorem agrees_arrive (p : Port) (tag : Octet) (r : Request) (h : agreeing s) : agreeing (arrive p tag r s) := by
  unfold arrive
  repeat' split
  · exact agrees_setRx _ _ (agrees_answer _ _ h)
  · exact h
  · exact agrees_receiveChars _ _ h
  · exact h
  · exact h

theorem agrees_badFrame (p : Port) (cs : List LineChar) (h : agreeing s) : agreeing (badFrame p cs s) := by
  unfold badFrame
  repeat' split
  all_goals exact h

/-- The attempts of one transaction are its own. -/
theorem agrees_putTransaction {t t' : Transaction} (h : agreeing s) (ht : s.loop.inFlight = some (.transaction t))
    (hc : t'.claimant = t.claimant) : agreeing (putTransaction t' s) := by
  refine agreeing_of_viewed h ?_
  change viewed (setInFlight _ s) = _
  rw [viewed_setInFlight]
  simp [viewed, viewOf, ht, claimantOf, hc]

theorem agrees_failAttempt {t : Transaction} (o : TxOutcome) (h : agreeing s)
    (ht : s.loop.inFlight = some (.transaction t)) : agreeing (failAttempt t o s) := by
  unfold failAttempt retryAfter
  split
  · rename_i t' hr
    split_ifs at hr
    obtain rfl := Option.some.inj hr
    exact agrees_putTransaction h ht rfl
  · exact agrees_endTransaction o h ht

theorem repeatOnHold_claimant {t t' : Transaction} (h : repeatOnHold t = some t') : t'.claimant = t.claimant := by
  unfold repeatOnHold at h
  split at h
  · cases h
  all_goals
    split_ifs at h
    all_goals
      obtain rfl := Option.some.inj h
      rfl

theorem agrees_takeReply {t : Transaction} (x : ReplyRead) (h : agreeing s)
    (ht : s.loop.inFlight = some (.transaction t)) : agreeing (takeReply t x s) := by
  cases x with
  | ok data => exact agrees_endTransaction _ h ht
  | error c => exact agrees_endTransaction _ h ht
  | hold =>
    change agreeing (match repeatOnHold t with
      | some t' => putTransaction t' s
      | none => endTransaction t .holdExhausted s)
    split
    · rename_i t' hr
      exact agrees_putTransaction h ht (repeatOnHold_claimant hr)
    · exact agrees_endTransaction _ h ht
  | spoiled => exact agrees_failAttempt _ h ht

theorem inFlight_of_transactionInFlight {t : Transaction} (h : transactionInFlight s = some t) :
    s.loop.inFlight = some (.transaction t) := by
  unfold transactionInFlight at h
  split at h
  · rename_i x hx
    rw [hx, Option.some.inj h]
  · cases h

theorem inFlight_of_awaited {t : Transaction} (h : awaited s = some t) : s.loop.inFlight = some (.transaction t) :=
  inFlight_of_transactionInFlight (Option.mem_filter_iff.mp h).1

theorem agrees_replyArrives (cs : List LineChar) (h : agreeing s) : agreeing (replyArrives cs s) := by
  unfold replyArrives
  split
  · rename_i ht
    split
    · exact h
    · exact agrees_takeReply _ h (inFlight_of_awaited ht)
  · exact h

theorem agrees_replyTimedOut (h : agreeing s) : agreeing (replyTimedOut s) := by
  unfold replyTimedOut
  split
  · rename_i ht
    exact agrees_failAttempt _ h (inFlight_of_awaited ht)
  · exact h

theorem agrees_endPoll (x : PollRead) (h : agreeing s) : agreeing (endPoll x s) :=
  agrees_judgeDemand (agrees_judge (agrees_takePoll x (agrees_lands h)))

theorem agrees_replyGap (h : agreeing s) : agreeing (replyGap s) := by
  unfold replyGap
  split
  · exact agrees_endPoll _ h
  · split
    · rename_i ht
      exact agrees_failAttempt _ h (inFlight_of_awaited ht)
    · exact h

theorem agrees_delayExpires (h : agreeing s) : agreeing (delayExpires s) := by
  unfold delayExpires
  split
  · rename_i ht
    have hf := inFlight_of_transactionInFlight ht
    split
    · exact agrees_putTransaction h hf rfl
    · exact agrees_putTransaction h hf rfl
    · exact h
  · exact h

theorem agrees_rawEnds (cs : List LineChar) (h : agreeing s) : agreeing (rawEnds cs s) := by
  have h1 := agrees_lands h
  unfold rawEnds
  split
  · exact agrees_judge (agrees_startSafe (s := slotDone .service _ (setInFlight none s)) h1 rfl)
  · exact h

theorem agrees_grantReleaseAtBoundary (h : agreeing s) : agreeing (grantReleaseAtBoundary s) := by
  unfold grantReleaseAtBoundary
  split
  · rename_i hc
    exact agrees_judge (agrees_grantRelease h (Option.isNone_iff_eq_none.mp hc.1) hc.2.2)
  · exact h

/-! ### Resets (R20, R21) -/

/-- With both channels at reset and no string held, everything agrees. -/
theorem agrees_of_reset (he : s.eqc = Eqc.reset) (hw : s.wac = Wac.reset) (hl : s.loop = Machine.Loop.reset)
    (hs : ∀ i : StringNo, s.strings[i].state.holder = .none) : agreeing s := by
  have hv : viewed s = { viewOf s.strings Eqc.reset Wac.reset Machine.Loop.reset with holder := fun _ => .none } := by
    simp only [viewed, he, hw, hl, viewOf]
    congr 1
    exact funext hs
  rw [agreeing, hv]
  constructor <;> simp [viewOf, Eqc.reset, Wac.reset, Machine.Loop.reset, claimantOf]

theorem pinReset_holder (r : StringRecord) : r.pinReset.state.holder = .none := by
  unfold StringRecord.pinReset
  dsimp only
  split <;> rfl

theorem agrees_afterLoad (c : Cause) (h : agreeing s) (hf : s.loop.inFlight = none) : agreeing (afterLoad c s) := by
  have loaded (u : State) (hu : agreeing u) (hn : u.loop.inFlight = none) :
      agreeing (startSafe (listInstalled (logWrite (LogRecord.restart 0 c u.clock) u))) := by
    refine agrees_startSafe (agreeing_of_viewed hu ?_) ?_
    · exact viewed_logWrite u _
    · simpa [listInstalled] using hn
  unfold afterLoad
  dsimp only
  split
  · exact loaded (raise .settingsStored s) h hf
  · exact loaded s h hf

theorem agrees_takePowerOn (x : Straps) (s : State) : agreeing (takePowerOn x s) :=
  agrees_afterLoad _ (agrees_of_reset rfl rfl rfl fun i => by simp [StringRecord.powerOn, StringState.holder]) rfl

theorem agrees_takePinReset (x : Straps) (s : State) : agreeing (takePinReset x s) :=
  agrees_afterLoad _ (agrees_of_reset rfl rfl rfl fun i => by simp [pinReset_holder]) rfl

theorem agrees_replySent (p : Port) (x : Straps) (h : agreeing s) : agreeing (replySent p x s) := by
  unfold replySent
  repeat' split
  · exact agrees_takePinReset x s
  · exact h
  · exact h

/-! ### Every command, and every step -/

theorem agrees_exec (c : Instr) (h : agreeing s) : ∃ t, exec c s = .next t ∧ agreeing t := by
  cases c
  case powerOn x => exact ⟨_, rfl, agrees_takePowerOn x s⟩
  case pinReset x => exact ⟨_, rfl, agrees_takePinReset x s⟩
  case siteTick => exact ⟨_, rfl, agrees_takeTick h⟩
  case scheduleMatch => exact ⟨_, rfl, agrees_takeScheduleMatch h⟩
  case siteHour => exact ⟨_, rfl, agrees_takeHour h⟩
  case siteMinute => exact ⟨_, rfl, agrees_takeMinute h⟩
  case settleEnd i => exact ⟨_, rfl, agrees_takeSettleEnd i h⟩
  case windowExpiry => exact ⟨_, rfl, agrees_takeWindowExpiry h⟩
  case sweepMatch => exact ⟨_, rfl, agrees_takeSweepMatch h⟩
  case periodExpiry => exact ⟨_, rfl, agrees_takePeriodExpiry h⟩
  case standbyRefresh => exact ⟨_, rfl, agrees_takeStandbyRefresh h⟩
  case pauseExpired => exact ⟨_, rfl, agrees_takePauseExpired h⟩
  case dosePoll => exact ⟨_, rfl, agrees_takeDosePoll h⟩
  case maximumDoseTime => exact ⟨_, rfl, agrees_takeMaximumDose h⟩
  case reservoirPoll => exact ⟨_, rfl, agrees_takeReservoirPoll h⟩
  case stale => exact ⟨_, rfl, agrees_takeStale h⟩
  case releaseLimit => exact ⟨_, rfl, agrees_takeReleaseLimit h⟩
  case pollSpacingEnd =>
    refine ⟨_, rfl, ?_⟩
    unfold spacingEnds
    split
    · exact agrees_judgeDemand (s := modDemand _ s) h
    · exact h
  case reconfigurationWaitEnd i => exact ⟨_, rfl, agrees_takeWaitEnd i h⟩
  case storeComplete =>
    refine ⟨_, rfl, ?_⟩
    unfold takeStoreComplete
    split <;> exact h
  case demandLineAsserted b => exact ⟨_, rfl, agrees_judgeDemand (s := modDemand _ s) h⟩
  case loopGrant => exact ⟨_, rfl, agrees_grantAtBoundary h⟩
  case releaseGrant => exact ⟨_, rfl, agrees_grantReleaseAtBoundary h⟩
  case fixedDelay => exact ⟨_, rfl, agrees_delayExpires h⟩
  case loopReply cs => exact ⟨_, rfl, agrees_replyArrives cs h⟩
  case replyTimeout => exact ⟨_, rfl, agrees_replyTimedOut h⟩
  case loopReplyGap => exact ⟨_, rfl, agrees_replyGap h⟩
  case demandPollReturn cs =>
    refine ⟨_, rfl, ?_⟩
    unfold Machine.pollReturns
    split
    · exact agrees_endPoll _ h
    · exact h
  case pollReturnTimeout =>
    refine ⟨_, rfl, ?_⟩
    unfold Machine.pollTimedOut
    split
    · exact agrees_endPoll _ h
    · exact h
  case rawCollectionEnd cs => exact ⟨_, rfl, agrees_rawEnds cs h⟩
  case frameGapTimeout p =>
    refine ⟨_, rfl, ?_⟩
    unfold gapTimeout
    split <;> exact h
  case resyncIdle p =>
    refine ⟨_, rfl, ?_⟩
    unfold resyncIdle
    split <;> exact h
  case badFrame p cs => exact ⟨_, rfl, agrees_badFrame p cs h⟩
  case replySent p x => exact ⟨_, rfl, agrees_replySent p x h⟩
  case characterReceived p c => exact ⟨_, rfl, agrees_receiveChar p c h⟩
  all_goals exact ⟨_, rfl, agrees_arrive _ _ _ h⟩

theorem agrees_step {t : State} (h : agreeing s) (hs : step s = .next t) : agreeing t := by
  unfold step at hs
  split at hs
  · cases hs
    exact h
  · rename_i c rest _
    obtain ⟨u, hu, hg⟩ := agrees_exec (s := s.withPending rest) c h
    rw [hu] at hs
    cases hs
    exact hg
end

/-- Settles O59: the promise of the holders and of the work is one predicate of the parts it reads (`agrees_iff`), and
every command keeps it. -/
theorem stepKeepsTheHolders : Obligations.StepKeepsTheHolders := by
  intro s t hs hh hw
  exact (agrees_iff t).mp (agrees_step ((agrees_iff s).mpr ⟨hh, hw⟩) hs)

end Sys2Proof.Laws
end
